-- ==== Sys2Proof/Word.lean ====
section
/-!
DEFINITION. The widths of the values of the block (00_scope.md section 7, 10_state.md rule R10): every register is a
32-bit unsigned word, a UART FIFO holds bytes, and a byte offset of a descriptor has 24 bits (rule R61). Bit 0 is the
least significant bit.
-/

namespace Sys2Proof

/-- A register value, an SPI FIFO element, or one word of an operation descriptor: 32 bits (R10, R31, R61). -/
abbrev Word := BitVec 32

/-- A UART FIFO element (R31). -/
abbrev Byte := BitVec 8

/-- A byte offset from an instance's base, as the descriptor carries it: bits 23:0 of `sel` (R61). -/
abbrev Off := BitVec 24

end Sys2Proof
end

