-- ==== Sys2Proof/Machine/Registers.lean ====
section
/-!
DEFINITION. The stored words of the two register files (10_state.md rules R11, R20, R21) as plain data, with the
notation `d.reg[NAME]` and `d.reg[NAME] <- v` of 00_scope.md section 7 as `get` and `set`.

A UART stores seventeen words; its other three registers (VERID, PARAM, DATARO) are constants (rule R18). An SPI
stores twelve; VERID and PARAM are constants (R29), and FSR, TDR, RSR, RDR and RDROR have no storage (R21).
-/

namespace Sys2Proof

/-- The UART registers that hold a stored word (R11). `matchReg` is MATCH. -/
inductive UartReg where
  | global | pincfg | baud | stat | ctrl | data | matchReg | modir | fifo | water
  | mcr | msr | reir | teir | hdcr | tocr | tosr
  deriving DecidableEq, Repr

/-- The stored words `u.reg[r]` of a UART instance (R11). -/
structure UartRegs where
  /-- 0x08: RST bit 0 (never stored as 1), EN bit 1 (R14). -/
  global : Word
  pincfg : Word
  baud : Word
  /-- 0x14: PF 16, FE 17, NF 18, OR 19, IDLE 20, RDRF 21, TC 22, TDRE 23 (R12). -/
  stat : Word
  /-- 0x18: RE 18, TE 19, ILIE 20, RIE 21, TCIE 22, TIE 23 (R13). -/
  ctrl : Word
  /-- 0x1C: the byte most recently popped by a DATA read (R15). -/
  data : Word
  matchReg : Word
  modir : Word
  /-- 0x28: RXUF 16, TXOF 17 sticky; bits 23:22 are computed at read (R16). -/
  fifo : Word
  /-- 0x2C: TXWATER 7:0, RXWATER 23:16; the other lanes are computed at read (R17). -/
  water : Word
  mcr : Word
  msr : Word
  reir : Word
  teir : Word
  hdcr : Word
  tocr : Word
  tosr : Word
  deriving DecidableEq, Repr

/-- `u.reg[r]`. -/
def UartRegs.get (g : UartRegs) : UartReg → Word
  | .global => g.global
  | .pincfg => g.pincfg
  | .baud => g.baud
  | .stat => g.stat
  | .ctrl => g.ctrl
  | .data => g.data
  | .matchReg => g.matchReg
  | .modir => g.modir
  | .fifo => g.fifo
  | .water => g.water
  | .mcr => g.mcr
  | .msr => g.msr
  | .reir => g.reir
  | .teir => g.teir
  | .hdcr => g.hdcr
  | .tocr => g.tocr
  | .tosr => g.tosr

/-- `u.reg[r] <- w`. -/
def UartRegs.set (g : UartRegs) (r : UartReg) (w : Word) : UartRegs :=
  match r with
  | .global => { g with global := w }
  | .pincfg => { g with pincfg := w }
  | .baud => { g with baud := w }
  | .stat => { g with stat := w }
  | .ctrl => { g with ctrl := w }
  | .data => { g with data := w }
  | .matchReg => { g with matchReg := w }
  | .modir => { g with modir := w }
  | .fifo => { g with fifo := w }
  | .water => { g with water := w }
  | .mcr => { g with mcr := w }
  | .msr => { g with msr := w }
  | .reir => { g with reir := w }
  | .teir => { g with teir := w }
  | .hdcr => { g with hdcr := w }
  | .tocr => { g with tocr := w }
  | .tosr => { g with tosr := w }

/-- The SPI registers that hold a stored word (R20, R21). -/
inductive SpiReg where
  | cr | sr | ier | der | cfgr0 | cfgr1 | dmr0 | dmr1 | ccr | ccr1 | fcr | tcr
  deriving DecidableEq, Repr

/-- The stored words `s.reg[r]` of an SPI instance (R20, R21). -/
structure SpiRegs where
  /-- 0x10: MEN bit 0; the action bits RST 1, RTF 8, RRF 9 are stored as 0 (R22). -/
  cr : Word
  /-- 0x14: the sticky bits WCF 8, FCF 9, TCF 10, TEF 11, REF 12 only (R23). -/
  sr : Word
  /-- 0x18: TDIE 0, RDIE 1, WCIE 8, FCIE 9, TCIE 10 (R24). -/
  ier : Word
  der : Word
  cfgr0 : Word
  /-- 0x24: MASTER bit 0 (R25). -/
  cfgr1 : Word
  dmr0 : Word
  dmr1 : Word
  ccr : Word
  ccr1 : Word
  /-- 0x58: TXWATER 15:0, RXWATER 31:16 (R26). -/
  fcr : Word
  tcr : Word
  deriving DecidableEq, Repr

/-- `s.reg[r]`. -/
def SpiRegs.get (g : SpiRegs) : SpiReg → Word
  | .cr => g.cr
  | .sr => g.sr
  | .ier => g.ier
  | .der => g.der
  | .cfgr0 => g.cfgr0
  | .cfgr1 => g.cfgr1
  | .dmr0 => g.dmr0
  | .dmr1 => g.dmr1
  | .ccr => g.ccr
  | .ccr1 => g.ccr1
  | .fcr => g.fcr
  | .tcr => g.tcr

/-- `s.reg[r] <- w`. -/
def SpiRegs.set (g : SpiRegs) (r : SpiReg) (w : Word) : SpiRegs :=
  match r with
  | .cr => { g with cr := w }
  | .sr => { g with sr := w }
  | .ier => { g with ier := w }
  | .der => { g with der := w }
  | .cfgr0 => { g with cfgr0 := w }
  | .cfgr1 => { g with cfgr1 := w }
  | .dmr0 => { g with dmr0 := w }
  | .dmr1 => { g with dmr1 := w }
  | .ccr => { g with ccr := w }
  | .ccr1 => { g with ccr1 := w }
  | .fcr => { g with fcr := w }
  | .tcr => { g with tcr := w }

end Sys2Proof
end

