-- ==== Sys2Proof/Config.lean ====
section
/-!
DEFINITION. The configuration of the block (00_scope.md rule R4) as plain data, its constraints, the reference
configuration CFG_REF, and the one free value: what a bus peer that is no loopback answers.

The configuration is a field of State that no operation changes, so a statement about every state is a statement
about every configuration (log 1).
-/

namespace Sys2Proof

/-- The bus peer of an SPI instance (R4, R56): a loopback returns the word just sent; what any other peer returns is
the environment's (R3). -/
inductive Peer where
  | loopback | external
  deriving DecidableEq, Repr

/-- What the board fixes for a UART instance: `UART_BASE[i]` and `UART_IRQ[i]` (R4). -/
structure UartWiring where
  base : Nat
  irq : Nat
  deriving DecidableEq, Repr

/-- What the board fixes for an SPI instance: `SPI_BASE[i]`, `SPI_IRQ[i]`, `SPI_PEER[i]` (R4). -/
structure SpiWiring where
  base : Nat
  irq : Nat
  peer : Peer
  deriving DecidableEq, Repr

/-- The parameters of the UART instances (R4). `N_UART` is the length of `wiring`. -/
structure UartConfig where
  /-- `UART_REGION_SIZE`, in bytes. -/
  regionSize : Nat
  /-- `UART_TX_CAP`, in bytes. -/
  txCap : Nat
  /-- `UART_RX_CAP`, in bytes. -/
  rxCap : Nat
  /-- `UART_VERID_RESET`. -/
  verid : Word
  /-- `UART_PARAM_RESET`. -/
  param : Word
  /-- `UART_RESET[r]`. -/
  reset : UartRegs
  wiring : List UartWiring
  deriving DecidableEq, Repr

/-- The parameters of the SPI instances (R4). `N_SPI` is the length of `wiring`. -/
structure SpiConfig where
  /-- `SPI_REGION_SIZE`, in bytes. -/
  regionSize : Nat
  /-- `SPI_TX_CAP`, in words. -/
  txCap : Nat
  /-- `SPI_RX_CAP`, in words. -/
  rxCap : Nat
  /-- `SPI_VERID_RESET`. -/
  verid : Word
  /-- `SPI_PARAM_RESET`. -/
  param : Word
  /-- `SPI_RDROR_OFFSET`. -/
  rdrorOffset : Off
  /-- `SPI_RESET[r]`. -/
  reset : SpiRegs
  wiring : List SpiWiring
  deriving DecidableEq, Repr

/-- The configuration record (R4). -/
structure Config where
  uart : UartConfig
  spi : SpiConfig
  deriving DecidableEq, Repr

/-- FREE VALUE (log 3). `SPI_PEER[i]` for a peer that is no loopback (R3, R4, U6): the word the peer of SPI instance
`inst` returns when the words sent to it so far, this one last, are `sent`. Nothing constrains it. -/
opaque Config.peerAnswer (inst : Nat) (sent : List Word) : Word

/-- `UART_RESET` as R33 decides it: STAT = 0x00C00000 (TDRE and TC set), every other stored word 0. -/
def UartRegs.decided : UartRegs where
  global := 0
  pincfg := 0
  baud := 0
  stat := 0x00C00000#32
  ctrl := 0
  data := 0
  matchReg := 0
  modir := 0
  fifo := 0
  water := 0
  mcr := 0
  msr := 0
  reir := 0
  teir := 0
  hdcr := 0
  tocr := 0
  tosr := 0

/-- `SPI_RESET` as R34 decides it: every stored word 0. -/
def SpiRegs.decided : SpiRegs where
  cr := 0
  sr := 0
  ier := 0
  der := 0
  cfgr0 := 0
  cfgr1 := 0
  dmr0 := 0
  dmr1 := 0
  ccr := 0
  ccr1 := 0
  fcr := 0
  tcr := 0

/-- CFG_REF (R4). PRESUMED by the spec: region sizes and the VERID and PARAM placeholders (log 13). DESIGN CHOICE:
the bases and interrupt numbers, which CFG_REF leaves out and no operation uses (log 2). -/
def Config.ref : Config where
  uart :=
    { regionSize := 0x4000, txCap := 4, rxCap := 4
      verid := 0x04040007#32, param := 0x00000202#32
      reset := UartRegs.decided
      wiring := [{ base := 0x0000, irq := 0 }] }
  spi :=
    { regionSize := 0x4000, txCap := 4, rxCap := 4
      verid := 0x02000004#32, param := 0x00080202#32
      rdrorOffset := 0x78#24
      reset := SpiRegs.decided
      wiring := [{ base := 0x4000, irq := 1, peer := .loopback }] }

end Sys2Proof
end

