-- ==== Sys2Proof/Syntax.lean ====
section
/-!
DEFINITION. The operations of the block, one constructor per row of opcode_table.json (30_encoding.md rules R60, R63,
R64, R65). `inst` is the index of the instance among those of its kind (R61). A register access carries its size, a
write the value written, an access that selects no register its offset, a receive callback its byte.
-/

namespace Sys2Proof

/-- The kind of a device instance (R1); bits 27:24 of a descriptor (R61). -/
inductive Kind where
  | uart | spi
  deriving DecidableEq, Repr

/-- A valid access size: 1, 2 or 4 bytes (R42). `none : Option Size` stands for any other size (R61, `lgsz` 3). -/
inductive Size where
  | b1 | b2 | b4
  deriving DecidableEq, Repr

/-- An operation. -/
inductive Instr where
  /-- UART.RD.VERID (R110). -/
  | uartRdVerid (inst : Nat) (size : Size)
  /-- UART.RD.PARAM (R111). -/
  | uartRdParam (inst : Nat) (size : Size)
  /-- UART.RD.GLOBAL (R112). -/
  | uartRdGlobal (inst : Nat) (size : Size)
  /-- UART.RD.PINCFG (R113). -/
  | uartRdPincfg (inst : Nat) (size : Size)
  /-- UART.RD.BAUD (R114). -/
  | uartRdBaud (inst : Nat) (size : Size)
  /-- UART.RD.STAT (R115). -/
  | uartRdStat (inst : Nat) (size : Size)
  /-- UART.RD.CTRL (R116). -/
  | uartRdCtrl (inst : Nat) (size : Size)
  /-- UART.RD.DATA (R117). -/
  | uartRdData (inst : Nat) (size : Size)
  /-- UART.RD.MATCH (R118). -/
  | uartRdMatch (inst : Nat) (size : Size)
  /-- UART.RD.MODIR (R119). -/
  | uartRdModir (inst : Nat) (size : Size)
  /-- UART.RD.FIFO (R120). -/
  | uartRdFifo (inst : Nat) (size : Size)
  /-- UART.RD.WATER (R121). -/
  | uartRdWater (inst : Nat) (size : Size)
  /-- UART.RD.DATARO (R122). -/
  | uartRdDataro (inst : Nat) (size : Size)
  /-- UART.RD.MCR (R123). -/
  | uartRdMcr (inst : Nat) (size : Size)
  /-- UART.RD.MSR (R124). -/
  | uartRdMsr (inst : Nat) (size : Size)
  /-- UART.RD.REIR (R125). -/
  | uartRdReir (inst : Nat) (size : Size)
  /-- UART.RD.TEIR (R126). -/
  | uartRdTeir (inst : Nat) (size : Size)
  /-- UART.RD.HDCR (R127). -/
  | uartRdHdcr (inst : Nat) (size : Size)
  /-- UART.RD.TOCR (R128). -/
  | uartRdTocr (inst : Nat) (size : Size)
  /-- UART.RD.TOSR (R129). -/
  | uartRdTosr (inst : Nat) (size : Size)
  /-- UART.RD.UNKNOWN (R130). -/
  | uartRdUnknown (inst : Nat) (size : Size) (off : Off)
  /-- UART.RD.INVALID (R43). -/
  | uartRdInvalid (inst : Nat) (size : Option Size) (off : Off)
  /-- UART.WR.VERID (R140). -/
  | uartWrVerid (inst : Nat) (size : Size) (val : Word)
  /-- UART.WR.PARAM (R141). -/
  | uartWrParam (inst : Nat) (size : Size) (val : Word)
  /-- UART.WR.GLOBAL (R142). -/
  | uartWrGlobal (inst : Nat) (size : Size) (val : Word)
  /-- UART.WR.PINCFG (R143). -/
  | uartWrPincfg (inst : Nat) (size : Size) (val : Word)
  /-- UART.WR.BAUD (R144). -/
  | uartWrBaud (inst : Nat) (size : Size) (val : Word)
  /-- UART.WR.STAT (R145). -/
  | uartWrStat (inst : Nat) (size : Size) (val : Word)
  /-- UART.WR.CTRL (R146). -/
  | uartWrCtrl (inst : Nat) (size : Size) (val : Word)
  /-- UART.WR.DATA (R147). -/
  | uartWrData (inst : Nat) (size : Size) (val : Word)
  /-- UART.WR.MATCH (R148). -/
  | uartWrMatch (inst : Nat) (size : Size) (val : Word)
  /-- UART.WR.MODIR (R149). -/
  | uartWrModir (inst : Nat) (size : Size) (val : Word)
  /-- UART.WR.FIFO (R150). -/
  | uartWrFifo (inst : Nat) (size : Size) (val : Word)
  /-- UART.WR.WATER (R151). -/
  | uartWrWater (inst : Nat) (size : Size) (val : Word)
  /-- UART.WR.DATARO (R152). -/
  | uartWrDataro (inst : Nat) (size : Size) (val : Word)
  /-- UART.WR.MCR (R153). -/
  | uartWrMcr (inst : Nat) (size : Size) (val : Word)
  /-- UART.WR.MSR (R154). -/
  | uartWrMsr (inst : Nat) (size : Size) (val : Word)
  /-- UART.WR.REIR (R155). -/
  | uartWrReir (inst : Nat) (size : Size) (val : Word)
  /-- UART.WR.TEIR (R156). -/
  | uartWrTeir (inst : Nat) (size : Size) (val : Word)
  /-- UART.WR.HDCR (R157). -/
  | uartWrHdcr (inst : Nat) (size : Size) (val : Word)
  /-- UART.WR.TOCR (R158). -/
  | uartWrTocr (inst : Nat) (size : Size) (val : Word)
  /-- UART.WR.TOSR (R159). -/
  | uartWrTosr (inst : Nat) (size : Size) (val : Word)
  /-- UART.WR.UNKNOWN (R160). -/
  | uartWrUnknown (inst : Nat) (size : Size) (off : Off) (val : Word)
  /-- UART.WR.INVALID (R43). -/
  | uartWrInvalid (inst : Nat) (size : Option Size) (off : Off) (val : Word)
  /-- SPI.RD.VERID (R180). -/
  | spiRdVerid (inst : Nat) (size : Size)
  /-- SPI.RD.PARAM (R181). -/
  | spiRdParam (inst : Nat) (size : Size)
  /-- SPI.RD.CR (R182). -/
  | spiRdCr (inst : Nat) (size : Size)
  /-- SPI.RD.SR (R183). -/
  | spiRdSr (inst : Nat) (size : Size)
  /-- SPI.RD.IER (R184). -/
  | spiRdIer (inst : Nat) (size : Size)
  /-- SPI.RD.DER (R185). -/
  | spiRdDer (inst : Nat) (size : Size)
  /-- SPI.RD.CFGR0 (R186). -/
  | spiRdCfgr0 (inst : Nat) (size : Size)
  /-- SPI.RD.CFGR1 (R187). -/
  | spiRdCfgr1 (inst : Nat) (size : Size)
  /-- SPI.RD.DMR0 (R188). -/
  | spiRdDmr0 (inst : Nat) (size : Size)
  /-- SPI.RD.DMR1 (R189). -/
  | spiRdDmr1 (inst : Nat) (size : Size)
  /-- SPI.RD.CCR (R190). -/
  | spiRdCcr (inst : Nat) (size : Size)
  /-- SPI.RD.CCR1 (R191). -/
  | spiRdCcr1 (inst : Nat) (size : Size)
  /-- SPI.RD.FCR (R192). -/
  | spiRdFcr (inst : Nat) (size : Size)
  /-- SPI.RD.FSR (R193). -/
  | spiRdFsr (inst : Nat) (size : Size)
  /-- SPI.RD.TCR (R194). -/
  | spiRdTcr (inst : Nat) (size : Size)
  /-- SPI.RD.TDR (R195). -/
  | spiRdTdr (inst : Nat) (size : Size)
  /-- SPI.RD.RSR (R196). -/
  | spiRdRsr (inst : Nat) (size : Size)
  /-- SPI.RD.RDR (R197). -/
  | spiRdRdr (inst : Nat) (size : Size)
  /-- SPI.RD.RDROR (R198). -/
  | spiRdRdror (inst : Nat) (size : Size)
  /-- SPI.RD.UNKNOWN (R199). -/
  | spiRdUnknown (inst : Nat) (size : Size) (off : Off)
  /-- SPI.RD.INVALID (R43). -/
  | spiRdInvalid (inst : Nat) (size : Option Size) (off : Off)
  /-- SPI.WR.VERID (R210). -/
  | spiWrVerid (inst : Nat) (size : Size) (val : Word)
  /-- SPI.WR.PARAM (R211). -/
  | spiWrParam (inst : Nat) (size : Size) (val : Word)
  /-- SPI.WR.CR (R212). -/
  | spiWrCr (inst : Nat) (size : Size) (val : Word)
  /-- SPI.WR.SR (R213). -/
  | spiWrSr (inst : Nat) (size : Size) (val : Word)
  /-- SPI.WR.IER (R214). -/
  | spiWrIer (inst : Nat) (size : Size) (val : Word)
  /-- SPI.WR.DER (R215). -/
  | spiWrDer (inst : Nat) (size : Size) (val : Word)
  /-- SPI.WR.CFGR0 (R216). -/
  | spiWrCfgr0 (inst : Nat) (size : Size) (val : Word)
  /-- SPI.WR.CFGR1 (R217). -/
  | spiWrCfgr1 (inst : Nat) (size : Size) (val : Word)
  /-- SPI.WR.DMR0 (R218). -/
  | spiWrDmr0 (inst : Nat) (size : Size) (val : Word)
  /-- SPI.WR.DMR1 (R219). -/
  | spiWrDmr1 (inst : Nat) (size : Size) (val : Word)
  /-- SPI.WR.CCR (R220). -/
  | spiWrCcr (inst : Nat) (size : Size) (val : Word)
  /-- SPI.WR.CCR1 (R221). -/
  | spiWrCcr1 (inst : Nat) (size : Size) (val : Word)
  /-- SPI.WR.FCR (R222). -/
  | spiWrFcr (inst : Nat) (size : Size) (val : Word)
  /-- SPI.WR.FSR (R223). -/
  | spiWrFsr (inst : Nat) (size : Size) (val : Word)
  /-- SPI.WR.TCR (R224). -/
  | spiWrTcr (inst : Nat) (size : Size) (val : Word)
  /-- SPI.WR.TDR (R225). -/
  | spiWrTdr (inst : Nat) (size : Size) (val : Word)
  /-- SPI.WR.RSR (R226). -/
  | spiWrRsr (inst : Nat) (size : Size) (val : Word)
  /-- SPI.WR.RDR (R227). -/
  | spiWrRdr (inst : Nat) (size : Size) (val : Word)
  /-- SPI.WR.RDROR (R228). -/
  | spiWrRdror (inst : Nat) (size : Size) (val : Word)
  /-- SPI.WR.UNKNOWN (R229). -/
  | spiWrUnknown (inst : Nat) (size : Size) (off : Off) (val : Word)
  /-- SPI.WR.INVALID (R43). -/
  | spiWrInvalid (inst : Nat) (size : Option Size) (off : Off) (val : Word)
  /-- UART.EVT.POR (R260). -/
  | uartEvtPor (inst : Nat)
  /-- UART.EVT.RX (R170). -/
  | uartEvtRx (inst : Nat) (b : Byte)
  /-- UART.EVT.CANACC (R171). -/
  | uartEvtCanacc (inst : Nat)
  /-- SPI.EVT.POR (R260). -/
  | spiEvtPor (inst : Nat)
  deriving DecidableEq, Repr

end Sys2Proof
end

