-- ==== Sys2Proof/Machine/Operands.lean ====
section
/-!
DEFINITION. Operand forms: access sizes and validity (20_memory.md rules R42, R45), truncation and extension (R104),
the operand assembly of 30_encoding.md rule R70, and the bit-field helpers of 00_scope.md section 7.
-/

namespace Sys2Proof

/-- The size in bytes (R42). -/
def Size.bytes : Size → Nat
  | .b1 => 1
  | .b2 => 2
  | .b4 => 4

/-- The access size of `n` bytes; `none` for a size other than 1, 2 and 4 (R42). -/
def sizeOfBytes (n : Nat) : Option Size :=
  if n = 1 then some .b1 else if n = 2 then some .b2 else if n = 4 then some .b4 else none

/-- The field `lgsz` of a descriptor (R61). -/
def sizeCode : Option Size → BitVec 2
  | some .b1 => 0#2
  | some .b2 => 1#2
  | some .b4 => 2#2
  | none => 3#2

/-- The size a field `lgsz` stands for (R61). -/
def sizeOfCode (c : BitVec 2) : Option Size :=
  if c = 0#2 then some .b1 else if c = 1#2 then some .b2 else if c = 2#2 then some .b4 else none

/-- The bits a value of this size has. -/
def sizeMask : Size → Word
  | .b1 => 0x000000FF#32
  | .b2 => 0x0000FFFF#32
  | .b4 => 0xFFFFFFFF#32

/-- `trunc_size(w)`: the low `8*size` bits of a read result (R45). -/
def truncSize (size : Size) (w : Word) : Word := w &&& sizeMask size

/-- `zext_32(value)`: the word of a write whose value has `8*size` bits (R45, R70). -/
def zextSize (size : Size) (val : Word) : Word := val &&& sizeMask size

/-- The validity of an access to an instance whose region has `regionSize` bytes (R42): a size of 1, 2 or 4, natural
alignment, and the whole access inside the region. -/
def validAccess (regionSize : Nat) (size : Option Size) (off : Off) : Bool :=
  match size with
  | none => false
  | some z => off.toNat % z.bytes == 0 && decide (off.toNat + z.bytes ≤ regionSize)

/-- `bit(i)`: the word with only bit `i` set (00_scope.md section 7). -/
def bit (i : Nat) : Word := 1#32 <<< i

/-- `b2w(c)` (00_scope.md section 7). -/
def b2w (c : Bool) : Word := if c then 1#32 else 0#32

/-- `d.reg[NAME][i] <- b`: replaces one bit and leaves the rest (00_scope.md section 7). -/
def setBit (w : Word) (i : Nat) (b : Bool) : Word := if b then w ||| bit i else w &&& ~~~(bit i)

/-- Write-1-to-clear (R103): `new = old & ~(w & MASK)`. -/
def clearOnes (old w mask : Word) : Word := old &&& ~~~(w &&& mask)

/-- `w[7:0]`: the byte a written word carries (R104). -/
def lowByte (w : Word) : Byte := w.extractLsb' 0 8

/-- A byte placed in a register (R104). -/
def byteToWord (b : Byte) : Word := b.setWidth 32

/-- `v[lo+len-1:lo]` as a natural number (00_scope.md section 7). -/
def fieldNat (v : Word) (lo len : Nat) : Nat := (v.extractLsb' lo len).toNat

end Sys2Proof
end

