-- ==== Sys2Proof/Machine/Descriptor.lean ====
section
/-!
DEFINITION. The operation descriptor (30_encoding.md rules R60, R61): the tuple that selects an operation, what each
constructor of `Instr` puts in it, and its packing into the pair of words `(sel, val)`. The instance index stands
beside the pair (R61, log 9).
-/

namespace Sys2Proof

/-- An operation as an agent issues it: the instance index among instances of one kind, and the pair `(sel, val)` of
R61. -/
structure Request where
  inst : Nat
  sel : Word
  val : Word
  deriving DecidableEq, Repr

/-- The class of an operation (R60). -/
inductive Cls where
  | rd | wr | evt
  deriving DecidableEq, Repr

/-- Which step of R62 selects the operation: an event (2), an invalid access (3), a register row (4), or an unknown
offset (5). -/
inductive Form where
  | event | invalid | register | unknown
  deriving DecidableEq, Repr

/-- The fields of an operation (R60, R61). For an event `off` holds the event id and `size` encodes `lgsz` 0. -/
structure Descriptor where
  form : Form
  cls : Cls
  kind : Kind
  inst : Nat
  size : Option Size
  off : Off
  val : Word
  deriving DecidableEq, Repr

/-- The field `cls` (R61). -/
def clsCode : Cls → BitVec 2
  | .rd => 0#2
  | .wr => 1#2
  | .evt => 2#2

/-- The field `kind` (R61). -/
def kindCode : Kind → BitVec 4
  | .uart => 0#4
  | .spi => 1#4

/-- The word `sel` with these fields (R61): `cls` 31:30, `lgsz` 29:28, `kind` 27:24, `off` 23:0. -/
def packSel (cls : Cls) (size : Option Size) (kind : Kind) (off : Off) : Word :=
  (clsCode cls).setWidth 32 <<< 30 ||| (sizeCode size).setWidth 32 <<< 28
    ||| (kindCode kind).setWidth 32 <<< 24 ||| off.setWidth 32

/-- The pair `(sel, val)` of a descriptor, with its instance index (R61). -/
def Descriptor.pack (d : Descriptor) : Request :=
  { inst := d.inst, sel := packSel d.cls d.size d.kind d.off, val := d.val }

/-- The descriptor of a read (R60). -/
def rdDesc (form : Form) (kind : Kind) (inst : Nat) (size : Option Size) (off : Off) : Descriptor :=
  { form, cls := .rd, kind, inst, size, off, val := 0#32 }

/-- The descriptor of a write (R60). -/
def wrDesc (form : Form) (kind : Kind) (inst : Nat) (size : Option Size) (off : Off) (val : Word) : Descriptor :=
  { form, cls := .wr, kind, inst, size, off, val }

/-- The descriptor of an event (R60, R65): id 0 is POR, 1 is RX, 2 is CANACC. -/
def evtDesc (kind : Kind) (inst : Nat) (id : Off) (val : Word) : Descriptor :=
  { form := .event, cls := .evt, kind, inst, size := some .b1, off := id, val }

/-- The descriptor of each operation: its row of R63, R64 or R65. -/
def Instr.descriptor (c : Config) : Instr → Descriptor
  | .uartRdVerid inst size => rdDesc .register .uart inst (some size) 0x00#24
  | .uartRdParam inst size => rdDesc .register .uart inst (some size) 0x04#24
  | .uartRdGlobal inst size => rdDesc .register .uart inst (some size) 0x08#24
  | .uartRdPincfg inst size => rdDesc .register .uart inst (some size) 0x0C#24
  | .uartRdBaud inst size => rdDesc .register .uart inst (some size) 0x10#24
  | .uartRdStat inst size => rdDesc .register .uart inst (some size) 0x14#24
  | .uartRdCtrl inst size => rdDesc .register .uart inst (some size) 0x18#24
  | .uartRdData inst size => rdDesc .register .uart inst (some size) 0x1C#24
  | .uartRdMatch inst size => rdDesc .register .uart inst (some size) 0x20#24
  | .uartRdModir inst size => rdDesc .register .uart inst (some size) 0x24#24
  | .uartRdFifo inst size => rdDesc .register .uart inst (some size) 0x28#24
  | .uartRdWater inst size => rdDesc .register .uart inst (some size) 0x2C#24
  | .uartRdDataro inst size => rdDesc .register .uart inst (some size) 0x30#24
  | .uartRdMcr inst size => rdDesc .register .uart inst (some size) 0x40#24
  | .uartRdMsr inst size => rdDesc .register .uart inst (some size) 0x44#24
  | .uartRdReir inst size => rdDesc .register .uart inst (some size) 0x48#24
  | .uartRdTeir inst size => rdDesc .register .uart inst (some size) 0x4C#24
  | .uartRdHdcr inst size => rdDesc .register .uart inst (some size) 0x50#24
  | .uartRdTocr inst size => rdDesc .register .uart inst (some size) 0x58#24
  | .uartRdTosr inst size => rdDesc .register .uart inst (some size) 0x5C#24
  | .uartRdUnknown inst size off => rdDesc .unknown .uart inst (some size) off
  | .uartRdInvalid inst size off => rdDesc .invalid .uart inst size off
  | .uartWrVerid inst size val => wrDesc .register .uart inst (some size) 0x00#24 val
  | .uartWrParam inst size val => wrDesc .register .uart inst (some size) 0x04#24 val
  | .uartWrGlobal inst size val => wrDesc .register .uart inst (some size) 0x08#24 val
  | .uartWrPincfg inst size val => wrDesc .register .uart inst (some size) 0x0C#24 val
  | .uartWrBaud inst size val => wrDesc .register .uart inst (some size) 0x10#24 val
  | .uartWrStat inst size val => wrDesc .register .uart inst (some size) 0x14#24 val
  | .uartWrCtrl inst size val => wrDesc .register .uart inst (some size) 0x18#24 val
  | .uartWrData inst size val => wrDesc .register .uart inst (some size) 0x1C#24 val
  | .uartWrMatch inst size val => wrDesc .register .uart inst (some size) 0x20#24 val
  | .uartWrModir inst size val => wrDesc .register .uart inst (some size) 0x24#24 val
  | .uartWrFifo inst size val => wrDesc .register .uart inst (some size) 0x28#24 val
  | .uartWrWater inst size val => wrDesc .register .uart inst (some size) 0x2C#24 val
  | .uartWrDataro inst size val => wrDesc .register .uart inst (some size) 0x30#24 val
  | .uartWrMcr inst size val => wrDesc .register .uart inst (some size) 0x40#24 val
  | .uartWrMsr inst size val => wrDesc .register .uart inst (some size) 0x44#24 val
  | .uartWrReir inst size val => wrDesc .register .uart inst (some size) 0x48#24 val
  | .uartWrTeir inst size val => wrDesc .register .uart inst (some size) 0x4C#24 val
  | .uartWrHdcr inst size val => wrDesc .register .uart inst (some size) 0x50#24 val
  | .uartWrTocr inst size val => wrDesc .register .uart inst (some size) 0x58#24 val
  | .uartWrTosr inst size val => wrDesc .register .uart inst (some size) 0x5C#24 val
  | .uartWrUnknown inst size off val => wrDesc .unknown .uart inst (some size) off val
  | .uartWrInvalid inst size off val => wrDesc .invalid .uart inst size off val
  | .spiRdVerid inst size => rdDesc .register .spi inst (some size) 0x00#24
  | .spiRdParam inst size => rdDesc .register .spi inst (some size) 0x04#24
  | .spiRdCr inst size => rdDesc .register .spi inst (some size) 0x10#24
  | .spiRdSr inst size => rdDesc .register .spi inst (some size) 0x14#24
  | .spiRdIer inst size => rdDesc .register .spi inst (some size) 0x18#24
  | .spiRdDer inst size => rdDesc .register .spi inst (some size) 0x1C#24
  | .spiRdCfgr0 inst size => rdDesc .register .spi inst (some size) 0x20#24
  | .spiRdCfgr1 inst size => rdDesc .register .spi inst (some size) 0x24#24
  | .spiRdDmr0 inst size => rdDesc .register .spi inst (some size) 0x30#24
  | .spiRdDmr1 inst size => rdDesc .register .spi inst (some size) 0x34#24
  | .spiRdCcr inst size => rdDesc .register .spi inst (some size) 0x40#24
  | .spiRdCcr1 inst size => rdDesc .register .spi inst (some size) 0x44#24
  | .spiRdFcr inst size => rdDesc .register .spi inst (some size) 0x58#24
  | .spiRdFsr inst size => rdDesc .register .spi inst (some size) 0x5C#24
  | .spiRdTcr inst size => rdDesc .register .spi inst (some size) 0x60#24
  | .spiRdTdr inst size => rdDesc .register .spi inst (some size) 0x64#24
  | .spiRdRsr inst size => rdDesc .register .spi inst (some size) 0x70#24
  | .spiRdRdr inst size => rdDesc .register .spi inst (some size) 0x74#24
  | .spiRdRdror inst size => rdDesc .register .spi inst (some size) c.spi.rdrorOffset
  | .spiRdUnknown inst size off => rdDesc .unknown .spi inst (some size) off
  | .spiRdInvalid inst size off => rdDesc .invalid .spi inst size off
  | .spiWrVerid inst size val => wrDesc .register .spi inst (some size) 0x00#24 val
  | .spiWrParam inst size val => wrDesc .register .spi inst (some size) 0x04#24 val
  | .spiWrCr inst size val => wrDesc .register .spi inst (some size) 0x10#24 val
  | .spiWrSr inst size val => wrDesc .register .spi inst (some size) 0x14#24 val
  | .spiWrIer inst size val => wrDesc .register .spi inst (some size) 0x18#24 val
  | .spiWrDer inst size val => wrDesc .register .spi inst (some size) 0x1C#24 val
  | .spiWrCfgr0 inst size val => wrDesc .register .spi inst (some size) 0x20#24 val
  | .spiWrCfgr1 inst size val => wrDesc .register .spi inst (some size) 0x24#24 val
  | .spiWrDmr0 inst size val => wrDesc .register .spi inst (some size) 0x30#24 val
  | .spiWrDmr1 inst size val => wrDesc .register .spi inst (some size) 0x34#24 val
  | .spiWrCcr inst size val => wrDesc .register .spi inst (some size) 0x40#24 val
  | .spiWrCcr1 inst size val => wrDesc .register .spi inst (some size) 0x44#24 val
  | .spiWrFcr inst size val => wrDesc .register .spi inst (some size) 0x58#24 val
  | .spiWrFsr inst size val => wrDesc .register .spi inst (some size) 0x5C#24 val
  | .spiWrTcr inst size val => wrDesc .register .spi inst (some size) 0x60#24 val
  | .spiWrTdr inst size val => wrDesc .register .spi inst (some size) 0x64#24 val
  | .spiWrRsr inst size val => wrDesc .register .spi inst (some size) 0x70#24 val
  | .spiWrRdr inst size val => wrDesc .register .spi inst (some size) 0x74#24 val
  | .spiWrRdror inst size val => wrDesc .register .spi inst (some size) c.spi.rdrorOffset val
  | .spiWrUnknown inst size off val => wrDesc .unknown .spi inst (some size) off val
  | .spiWrInvalid inst size off val => wrDesc .invalid .spi inst size off val
  | .uartEvtPor inst => evtDesc .uart inst 0#24 0#32
  | .uartEvtRx inst b => evtDesc .uart inst 1#24 (byteToWord b)
  | .uartEvtCanacc inst => evtDesc .uart inst 2#24 0#32
  | .spiEvtPor inst => evtDesc .spi inst 0#24 0#32

/-- The offsets of the twenty UART registers (R11, R63). -/
def uartOffsets : List Nat :=
  [0x00, 0x04, 0x08, 0x0C, 0x10, 0x14, 0x18, 0x1C, 0x20, 0x24, 0x28, 0x2C,
    0x30, 0x40, 0x44, 0x48, 0x4C, 0x50, 0x58, 0x5C]

/-- The offsets of the eighteen SPI registers that R21 fixes. -/
def spiFixedOffsets : List Nat :=
  [0x00, 0x04, 0x10, 0x14, 0x18, 0x1C, 0x20, 0x24, 0x30, 0x34, 0x40, 0x44,
    0x58, 0x5C, 0x60, 0x64, 0x70, 0x74]

/-- The offsets of the nineteen SPI registers (R21, R64): the fixed ones and `SPI_RDROR_OFFSET`. -/
def spiOffsets (c : Config) : List Nat := spiFixedOffsets ++ [c.spi.rdrorOffset.toNat]

/-- The offset holds a register of this kind of instance: its complement is the unknown offsets of R66. -/
def knownOffset (c : Config) (k : Kind) (off : Off) : Bool :=
  match k with
  | .uart => uartOffsets.contains off.toNat
  | .spi => (spiOffsets c).contains off.toNat

/-- The region size of the instances of a kind (R4, R40). -/
def Config.regionSize (c : Config) : Kind → Nat
  | .uart => c.uart.regionSize
  | .spi => c.spi.regionSize

/-- The number of instances of a kind: `N_UART`, `N_SPI` (R1, R4). -/
def Config.count (c : Config) : Kind → Nat
  | .uart => c.uart.wiring.length
  | .spi => c.spi.wiring.length

end Sys2Proof
end

