-- ==== Sys2Proof/WellFormed.lean ====
section
/-!
DEFINITION. Well-formed operations (30_encoding.md rules R60 to R66) and well-formed configurations (00_scope.md rule
R4).
-/

namespace Sys2Proof

/-- The value operand of a write has `8*size` bits (R41, R61); where the size is no valid one there is no bound. -/
def valueFits (size : Option Size) (val : Word) : Bool :=
  match size with
  | none => true
  | some z => zextSize z val == val

/-- A descriptor that names an operation of the block as its constructor says (R62): the instance exists, the value
fits the size, a register access is valid, an UNKNOWN access is valid and selects no register, an INVALID access is
invalid. -/
def Descriptor.wellFormed (c : Config) (d : Descriptor) : Bool :=
  decide (d.inst < c.count d.kind) &&
    match d.form with
    | .event => true
    | .register => validAccess (c.regionSize d.kind) d.size d.off && valueFits d.size d.val
    | .unknown =>
      validAccess (c.regionSize d.kind) d.size d.off && !knownOffset c d.kind d.off && valueFits d.size d.val
    | .invalid => !validAccess (c.regionSize d.kind) d.size d.off && valueFits d.size d.val

/-- An operation is well formed when its descriptor is. -/
def Instr.wellFormed (c : Config) (i : Instr) : Bool := (i.descriptor c).wellFormed c

/-- Two regions do not meet (R4: "regions disjoint"). -/
def disjointRegions (a b : Nat × Nat) : Bool := decide (a.1 + a.2 ≤ b.1) || decide (b.1 + b.2 ≤ a.1)

/-- Every region of the board, as base and size (R40). -/
def Config.regions (c : Config) : List (Nat × Nat) :=
  c.uart.wiring.map (fun w => (w.base, c.uart.regionSize)) ++ c.spi.wiring.map (fun w => (w.base, c.spi.regionSize))

/-- No region of the list meets a later one. -/
def pairwiseDisjoint : List (Nat × Nat) → Bool
  | [] => true
  | a :: rest => rest.all (disjointRegions a) && pairwiseDisjoint rest

/-- The constraints of R4 on the UART parameters, with what R12, R15, R16, R33 and R161 say of every reset state
(log 12): STAT = 0x00C00000, GLOBAL bits 1:0 and CTRL bits 19:18 clear, no interrupt enable that STAT meets, DATA a
byte's width, the sticky bits of FIFO clear. -/
def UartConfig.wf (c : UartConfig) : Bool :=
  decide (1 ≤ c.txCap ∧ c.txCap ≤ 255) && decide (1 ≤ c.rxCap ∧ c.rxCap ≤ 255)
    && decide (c.regionSize % 4 = 0 ∧ 0x60 ≤ c.regionSize ∧ c.regionSize ≤ 2 ^ 24)
    && c.wiring.all (fun w => w.base % 4 == 0)
    && c.reset.stat == 0x00C00000#32
    && c.reset.global &&& 0x00000003#32 == 0#32
    && c.reset.ctrl &&& 0x00CC0000#32 == 0#32
    && c.reset.data &&& 0xFFFFFF00#32 == 0#32
    && c.reset.fifo &&& 0x00030000#32 == 0#32

/-- The constraints of R4 on the SPI parameters, with what R22, R23 and R230 say of every reset state (log 12): CR bits
9, 8, 1, 0 clear, the stored SR 0, no interrupt enable that the reset SR or an empty TX FIFO meets, RDROR word-aligned and
apart from every other register. -/
def SpiConfig.wf (c : SpiConfig) : Bool :=
  decide (1 ≤ c.txCap ∧ c.txCap ≤ 65535) && decide (1 ≤ c.rxCap ∧ c.rxCap ≤ 65535)
    && decide (c.regionSize % 4 = 0 ∧ 0x7C ≤ c.regionSize ∧ c.regionSize ≤ 2 ^ 24)
    && c.wiring.all (fun w => w.base % 4 == 0)
    && c.reset.cr &&& 0x00000303#32 == 0#32
    && c.reset.sr == 0#32
    && c.reset.ier &&& 0x00000001#32 == 0#32
    && decide (c.rdrorOffset.toNat % 4 = 0)
    && !(spiFixedOffsets.contains c.rdrorOffset.toNat)

/-- A configuration that R4 admits. -/
def Config.wf (c : Config) : Bool := c.uart.wf && c.spi.wf && pairwiseDisjoint c.regions

end Sys2Proof
end

