-- ==== Sys2Proof/Decode.lean ====
section
/-!
DEFINITION. Decoding an operation descriptor (30_encoding.md rule R62 over the tables of rules R63 to R66), total on
any pair of words and rejecting by name, and after it the encoder (rule R61).
-/

namespace Sys2Proof

/-- Why a request is no operation of the block (R62 step 1, R1). The decoder raises each; each is SAFE, for the spec
gives such a request no effect at all. -/
inductive Reject where
  /-- `cls` = 3. -/
  | noSuchClass
  /-- `kind` > 1. -/
  | noSuchKind
  /-- An event with `lgsz` other than 0. -/
  | eventSize
  /-- An event with `off[23:8]` other than 0. -/
  | eventReservedBits
  /-- An event id that is not defined for the kind. -/
  | noSuchEvent
  /-- The instance index is not below the number of instances of the kind (R1). -/
  | noSuchInstance
  deriving DecidableEq, Repr

/-- The field `cls` (R61); `none` for 3. -/
def clsOfCode (c : BitVec 2) : Option Cls :=
  if c = 0#2 then some .rd else if c = 1#2 then some .wr else if c = 2#2 then some .evt else none

/-- The field `kind` (R61); `none` for 2 to 15. -/
def kindOfCode (k : BitVec 4) : Option Kind :=
  if k = 0#4 then some .uart else if k = 1#4 then some .spi else none

/-- The rows of R63 for class RD: the operation at byte offset `off`. -/
def uartRdRow (inst : Nat) (z : Size) (off : Nat) : Option Instr :=
  match off with
  | 0x00 => some (.uartRdVerid inst z)
  | 0x04 => some (.uartRdParam inst z)
  | 0x08 => some (.uartRdGlobal inst z)
  | 0x0C => some (.uartRdPincfg inst z)
  | 0x10 => some (.uartRdBaud inst z)
  | 0x14 => some (.uartRdStat inst z)
  | 0x18 => some (.uartRdCtrl inst z)
  | 0x1C => some (.uartRdData inst z)
  | 0x20 => some (.uartRdMatch inst z)
  | 0x24 => some (.uartRdModir inst z)
  | 0x28 => some (.uartRdFifo inst z)
  | 0x2C => some (.uartRdWater inst z)
  | 0x30 => some (.uartRdDataro inst z)
  | 0x40 => some (.uartRdMcr inst z)
  | 0x44 => some (.uartRdMsr inst z)
  | 0x48 => some (.uartRdReir inst z)
  | 0x4C => some (.uartRdTeir inst z)
  | 0x50 => some (.uartRdHdcr inst z)
  | 0x58 => some (.uartRdTocr inst z)
  | 0x5C => some (.uartRdTosr inst z)
  | _ => none

/-- The rows of R63 for class WR: the operation at byte offset `off`. -/
def uartWrRow (inst : Nat) (z : Size) (val : Word) (off : Nat) : Option Instr :=
  match off with
  | 0x00 => some (.uartWrVerid inst z val)
  | 0x04 => some (.uartWrParam inst z val)
  | 0x08 => some (.uartWrGlobal inst z val)
  | 0x0C => some (.uartWrPincfg inst z val)
  | 0x10 => some (.uartWrBaud inst z val)
  | 0x14 => some (.uartWrStat inst z val)
  | 0x18 => some (.uartWrCtrl inst z val)
  | 0x1C => some (.uartWrData inst z val)
  | 0x20 => some (.uartWrMatch inst z val)
  | 0x24 => some (.uartWrModir inst z val)
  | 0x28 => some (.uartWrFifo inst z val)
  | 0x2C => some (.uartWrWater inst z val)
  | 0x30 => some (.uartWrDataro inst z val)
  | 0x40 => some (.uartWrMcr inst z val)
  | 0x44 => some (.uartWrMsr inst z val)
  | 0x48 => some (.uartWrReir inst z val)
  | 0x4C => some (.uartWrTeir inst z val)
  | 0x50 => some (.uartWrHdcr inst z val)
  | 0x58 => some (.uartWrTocr inst z val)
  | 0x5C => some (.uartWrTosr inst z val)
  | _ => none

/-- The rows of R64 for class RD: the operation at byte offset `off`. -/
def spiRdRow (c : Config) (inst : Nat) (z : Size) (off : Nat) : Option Instr :=
  match off with
  | 0x00 => some (.spiRdVerid inst z)
  | 0x04 => some (.spiRdParam inst z)
  | 0x10 => some (.spiRdCr inst z)
  | 0x14 => some (.spiRdSr inst z)
  | 0x18 => some (.spiRdIer inst z)
  | 0x1C => some (.spiRdDer inst z)
  | 0x20 => some (.spiRdCfgr0 inst z)
  | 0x24 => some (.spiRdCfgr1 inst z)
  | 0x30 => some (.spiRdDmr0 inst z)
  | 0x34 => some (.spiRdDmr1 inst z)
  | 0x40 => some (.spiRdCcr inst z)
  | 0x44 => some (.spiRdCcr1 inst z)
  | 0x58 => some (.spiRdFcr inst z)
  | 0x5C => some (.spiRdFsr inst z)
  | 0x60 => some (.spiRdTcr inst z)
  | 0x64 => some (.spiRdTdr inst z)
  | 0x70 => some (.spiRdRsr inst z)
  | 0x74 => some (.spiRdRdr inst z)
  | n => if n = c.spi.rdrorOffset.toNat then some (.spiRdRdror inst z) else none

/-- The rows of R64 for class WR: the operation at byte offset `off`. -/
def spiWrRow (c : Config) (inst : Nat) (z : Size) (val : Word) (off : Nat) : Option Instr :=
  match off with
  | 0x00 => some (.spiWrVerid inst z val)
  | 0x04 => some (.spiWrParam inst z val)
  | 0x10 => some (.spiWrCr inst z val)
  | 0x14 => some (.spiWrSr inst z val)
  | 0x18 => some (.spiWrIer inst z val)
  | 0x1C => some (.spiWrDer inst z val)
  | 0x20 => some (.spiWrCfgr0 inst z val)
  | 0x24 => some (.spiWrCfgr1 inst z val)
  | 0x30 => some (.spiWrDmr0 inst z val)
  | 0x34 => some (.spiWrDmr1 inst z val)
  | 0x40 => some (.spiWrCcr inst z val)
  | 0x44 => some (.spiWrCcr1 inst z val)
  | 0x58 => some (.spiWrFcr inst z val)
  | 0x5C => some (.spiWrFsr inst z val)
  | 0x60 => some (.spiWrTcr inst z val)
  | 0x64 => some (.spiWrTdr inst z val)
  | 0x70 => some (.spiWrRsr inst z val)
  | 0x74 => some (.spiWrRdr inst z val)
  | n => if n = c.spi.rdrorOffset.toNat then some (.spiWrRdror inst z val) else none

/-- Steps 3 to 5 of R62 for a read. -/
def decodeRead (c : Config) (k : Kind) (inst : Nat) (size : Option Size) (off : Off) : Instr :=
  match k, size with
  | .uart, none => .uartRdInvalid inst none off
  | .spi, none => .spiRdInvalid inst none off
  | .uart, some z =>
    if validAccess c.uart.regionSize (some z) off then
      (uartRdRow inst z off.toNat).getD (.uartRdUnknown inst z off)
    else .uartRdInvalid inst (some z) off
  | .spi, some z =>
    if validAccess c.spi.regionSize (some z) off then
      (spiRdRow c inst z off.toNat).getD (.spiRdUnknown inst z off)
    else .spiRdInvalid inst (some z) off

/-- Steps 3 to 5 of R62 for a write. The value operand keeps the `8*size` bits a value of its size has (R41; DESIGN
CHOICE, log 8: R61 gives a descriptor whose `val` has more no meaning of its own). -/
def decodeWrite (c : Config) (k : Kind) (inst : Nat) (size : Option Size) (off : Off) (val : Word) : Instr :=
  match k, size with
  | .uart, none => .uartWrInvalid inst none off val
  | .spi, none => .spiWrInvalid inst none off val
  | .uart, some z =>
    let v := zextSize z val
    if validAccess c.uart.regionSize (some z) off then
      (uartWrRow inst z v off.toNat).getD (.uartWrUnknown inst z off v)
    else .uartWrInvalid inst (some z) off v
  | .spi, some z =>
    let v := zextSize z val
    if validAccess c.spi.regionSize (some z) off then
      (spiWrRow c inst z v off.toNat).getD (.spiWrUnknown inst z off v)
    else .spiWrInvalid inst (some z) off v

/-- Step 1 of R62 for an event, then its row of R65. -/
def decodeEvent (k : Kind) (inst : Nat) (lgsz : BitVec 2) (off : Off) (val : Word) : Except Reject Instr :=
  if lgsz ≠ 0#2 then .error .eventSize
  else if off.extractLsb' 8 16 ≠ 0#16 then .error .eventReservedBits
  else
    match k, (off.extractLsb' 0 8).toNat with
    | .uart, 0 => .ok (.uartEvtPor inst)
    | .uart, 1 => .ok (.uartEvtRx inst (lowByte val))
    | .uart, 2 => .ok (.uartEvtCanacc inst)
    | .spi, 0 => .ok (.spiEvtPor inst)
    | _, _ => .error .noSuchEvent

/-- Decodes a request (R62): what is no operation of the block is rejected by name, everything else is one
operation. -/
def decode (c : Config) (r : Request) : Except Reject Instr :=
  let off : Off := r.sel.extractLsb' 0 24
  let lgsz : BitVec 2 := r.sel.extractLsb' 28 2
  match clsOfCode (r.sel.extractLsb' 30 2), kindOfCode (r.sel.extractLsb' 24 4) with
  | none, _ => .error .noSuchClass
  | some _, none => .error .noSuchKind
  | some cls, some k =>
    if c.count k ≤ r.inst then .error .noSuchInstance
    else
      match cls with
      | .rd => .ok (decodeRead c k r.inst (sizeOfCode lgsz) off)
      | .wr => .ok (decodeWrite c k r.inst (sizeOfCode lgsz) off r.val)
      | .evt => decodeEvent k r.inst lgsz off r.val

/-- The request of an operation: its instance index and its pair `(sel, val)` (R61). -/
def encode (c : Config) (i : Instr) : Request := (i.descriptor c).pack

/-- The request for instance 0 whose `sel` is bits 31:0 of `w` and whose `val` is bits 63:32, `w` cut to its low
`nbits` bits: how opcode_table.json numbers the bits of a descriptor. The block has no byte order (R46). -/
def tableRequest (nbits w : Nat) : Request :=
  let v := w % 2 ^ nbits
  { inst := 0, sel := BitVec.ofNat 32 v, val := BitVec.ofNat 32 (v / 2 ^ 32) }

/-- The operation this decoder reads from a row of opcode_table.json, under the reference configuration. -/
def decodeTableWord (nbits w : Nat) : Option Instr :=
  match decode Config.ref (tableRequest nbits w) with
  | .ok i => some i
  | .error _ => none

end Sys2Proof
end

