-- ==== Sys2Proof/Machine/State.lean ====
section
/-!
DEFINITION. The state of the block as plain data (10_state.md rules R11, R20, R25, R30, R31), the outcomes a step can
have beside a next state, and the state after reset (rules R33, R34). The interrupt levels are no state: they are
functions of it (R32), in Flags.lean.
-/

namespace Sys2Proof.Machine

/-- A UART instance (R11). A FIFO is the list of the elements it holds, oldest first (R31, R94; log 4). -/
structure Uart where
  regs : UartRegs
  /-- The TX FIFO. -/
  tx : List Byte
  /-- The RX FIFO. -/
  rx : List Byte
  /-- The output byte stream: every byte passed to `send`, in order (R32, R172). A record in the environment that no
  operation reads and no reset clears (R263; log 7). -/
  out : List Byte
  deriving DecidableEq, Repr

/-- An SPI instance (R20). -/
structure Spi where
  regs : SpiRegs
  /-- The TX FIFO. -/
  tx : List Word
  /-- The RX FIFO. -/
  rx : List Word
  /-- The hidden flag `enabled` (R30). -/
  enabled : Bool
  /-- The hidden flag `master` (R25). -/
  master : Bool
  /-- Every word passed to `exchange`, in order: the argument of `SPI_PEER` (R4, R233). A record in the environment
  that no reset clears (R263; log 7). -/
  sent : List Word
  deriving DecidableEq, Repr

/-- The kinds of guest error (R96, R240). -/
inductive GuestError where
  | unknownOffset | readOfWriteOnly | writeToReadOnly | misaligned | badSize | outOfRange
  deriving DecidableEq, Repr

/-- What an operation hands back: the result of a read or query (R5), and the kind of guest error it raised, which only
a diagnostic log may show (R96; log 6). -/
structure Reply where
  value : Option Word
  error : Option GuestError
  deriving DecidableEq, Repr

/-- The machine. `cfg` is the configuration, which no operation changes (R4, R35; log 1). `ops` holds the operations
the agents have issued and the block has not yet performed, in serialisation order (R49, R50; log 5). `reply` is what
the operation performed last handed back (log 6). -/
structure State where
  cfg : Config
  uarts : List Uart
  spis : List Spi
  ops : List Request
  reply : Reply
  deriving DecidableEq, Repr

/-- There is no fault: every operation is total and none is fatal (R5, R243, R248). An empty type says that the
machine never stops with one (SAFE and exact). -/
inductive Fault where
  deriving DecidableEq, Repr

/-- Why the machine refuses to go on. -/
inductive Refusal where
  /-- Raised by `exec`'s arm of an instruction without a meaning; no arm does. SAFE. -/
  | notModelled (mnemonic : String)
  /-- Raised by `step`: the next request is no operation of the block (R62: "a decoder refuses it"). SAFE: the spec
  gives it no effect. -/
  | notAnOperation (why : Reject)
  /-- Raised by every meaning: the instance it names does not exist (R1). SAFE: the spec gives no instance to act on. -/
  | noSuchInstance (kind : Kind) (inst : Nat)
  /-- Raised by the bus (Bus.lean): the address lies outside every region; "what it does with an address outside every
  region is not the block's concern" (R41). SAFE. -/
  | noDeviceAt (addr : Nat)
  /-- Raised by the bus (Bus.lean): an instruction fetch presented to the block as a fetch "is not an operation of the
  block and a model must refuse it" (R55); one presented as a read runs (D4, log 15). SAFE. -/
  | instructionFetch (addr : Nat)
  deriving DecidableEq, Repr

/-- What performing an operation answers. -/
abbrev Result := Host.Outcome State Fault Refusal

/-- A UART instance after its power-on reset at construction (R33), nothing yet sent. -/
def Uart.afterReset (c : Config) : Uart :=
  { regs := c.uart.reset, tx := [], rx := [], out := [] }

/-- An SPI instance after its power-on reset at construction (R34), nothing yet exchanged. -/
def Spi.afterReset (c : Config) : Spi :=
  { regs := c.spi.reset, tx := [], rx := [], enabled := false, master := false, sent := [] }

/-- The block of configuration `c` right after construction: every instance after its power-on reset (R260), no
operation issued. -/
def State.resetOf (c : Config) : State :=
  { cfg := c
    uarts := List.replicate (c.count .uart) (Uart.afterReset c)
    spis := List.replicate (c.count .spi) (Spi.afterReset c)
    ops := []
    reply := { value := none, error := none } }

/-- The machine right after reset, under the reference configuration CFG_REF (R4; log 1). -/
def State.reset : State := State.resetOf Config.ref

end Sys2Proof.Machine
end

