-- ==== Sys2Proof/Machine/Access.lean ====
section
/-!
DEFINITION. The notation `d.reg[NAME]`, `d.reg[NAME] <- v` and `d.reg[NAME][i] <- b` of 00_scope.md section 7 on an
instance. Every read and write of a stored word goes through these.
-/

namespace Sys2Proof.Machine

/-- `u.reg[r]`. -/
def Uart.reg (u : Uart) (r : UartReg) : Word := u.regs.get r

/-- `u.reg[r] <- w`. -/
def Uart.setReg (u : Uart) (r : UartReg) (w : Word) : Uart := { u with regs := u.regs.set r w }

/-- `u.reg[r][i] <- b`. -/
def Uart.setRegBit (u : Uart) (r : UartReg) (i : Nat) (b : Bool) : Uart := u.setReg r (setBit (u.reg r) i b)

/-- `s.reg[r]`. -/
def Spi.reg (s : Spi) (r : SpiReg) : Word := s.regs.get r

/-- `s.reg[r] <- w`. -/
def Spi.setReg (s : Spi) (r : SpiReg) (w : Word) : Spi := { s with regs := s.regs.set r w }

/-- `s.reg[r][i] <- b`. -/
def Spi.setRegBit (s : Spi) (r : SpiReg) (i : Nat) (b : Bool) : Spi := s.setReg r (setBit (s.reg r) i b)

/-- UART CTRL.RE, receive enable (R13). -/
def Uart.re (u : Uart) : Bool := (u.reg .ctrl).getLsbD 18

/-- UART CTRL.TE, transmit enable (R13). -/
def Uart.te (u : Uart) : Bool := (u.reg .ctrl).getLsbD 19

end Sys2Proof.Machine
end

