-- ==== Sys2Proof/Machine/Flags.lean ====
section
/-!
DEFINITION. Every flag computation of the spec: the derived status functions of a UART (40_common.md rule R101) and of
an SPI (R102), and the interrupt levels (60_exceptions.md rules R244, R245, R246). A stored flag is a bit of a
register word; a computed one is a function here and has no storage (R37).
-/

namespace Sys2Proof.Machine

/-- `TXWATER(u)` = WATER[7:0] (R17, R101). -/
def Uart.txWater (u : Uart) : Nat := fieldNat (u.reg .water) 0 8

/-- `RXWATER(u)` = WATER[23:16] (R17, R101). -/
def Uart.rxWater (u : Uart) : Nat := fieldNat (u.reg .water) 16 8

/-- `tdre_calc(u)`: the TX occupancy is at most TXWATER (R101). -/
def Uart.tdreCalc (u : Uart) : Bool := decide (u.tx.length ≤ u.txWater)

/-- `rdrf_calc(u)`: the RX occupancy is above RXWATER (R101). -/
def Uart.rdrfCalc (u : Uart) : Bool := decide (u.rxWater < u.rx.length)

/-- `tc_calc(u)`: the TX FIFO is empty (R101). -/
def Uart.tcCalc (u : Uart) : Bool := decide (u.tx.length = 0)

/-- `FIFO_live(u)`: the stored FIFO word with RXEMPT (bit 22) and TXEMPT (bit 23) computed (R16, R101). -/
def Uart.fifoLive (u : Uart) : Word :=
  (u.reg .fifo &&& 0xFF3FFFFF#32) ||| b2w (decide (u.rx.length = 0)) <<< 22 ||| b2w (decide (u.tx.length = 0)) <<< 23

/-- `WATER_live(u)`: the stored watermarks with TXCOUNT (15:8) and RXCOUNT (31:24) computed (R17, R101). -/
def Uart.waterLive (u : Uart) : Word :=
  (u.reg .water &&& 0x00FF00FF#32) ||| BitVec.ofNat 32 u.tx.length <<< 8 ||| BitVec.ofNat 32 u.rx.length <<< 24

/-- `irq(u)`: RDRF and RIE, or TDRE and TIE, or TC and TCIE, or IDLE and ILIE, from the stored STAT (R244). -/
def Uart.irq (u : Uart) : Bool := decide (u.reg .stat &&& u.reg .ctrl &&& 0x00F00000#32 ≠ 0#32)

/-- `SPI_TXWATER(s)` = FCR[15:0] (R26, R102). -/
def Spi.txWater (s : Spi) : Nat := fieldNat (s.reg .fcr) 0 16

/-- `SPI_RXWATER(s)` = FCR[31:16] (R26, R102). -/
def Spi.rxWater (s : Spi) : Nat := fieldNat (s.reg .fcr) 16 16

/-- `TDF(s)`: the TX occupancy is at most the TX watermark (R23, R102). -/
def Spi.tdf (s : Spi) : Bool := decide (s.tx.length ≤ s.txWater)

/-- `RDF(s)`: the RX occupancy is above the RX watermark (R23, R102). -/
def Spi.rdf (s : Spi) : Bool := decide (s.rxWater < s.rx.length)

/-- `SR_live(s)`: the sticky bits 12:8 with TDF and RDF computed (R23, R102). -/
def Spi.srLive (s : Spi) : Word := (s.reg .sr &&& 0x00001F00#32) ||| b2w s.tdf ||| b2w s.rdf <<< 1

/-- `FSR(s)`: RX occupancy in the high half-word, TX occupancy in the low one (R27, R102). -/
def Spi.fsr (s : Spi) : Word := BitVec.ofNat 32 s.rx.length <<< 16 ||| BitVec.ofNat 32 s.tx.length

/-- `RSR(s)`: bit 1 RXEMPTY (R28, R102). -/
def Spi.rsr (s : Spi) : Word := b2w (decide (s.rx.length = 0)) <<< 1

/-- `irq(s)`: TDF/TDIE, RDF/RDIE, WCF/WCIE, FCF/FCIE, TCF/TCIE (R245). -/
def Spi.irq (s : Spi) : Bool := decide (s.srLive &&& s.reg .ier &&& 0x00000703#32 ≠ 0#32)

/-- Every interrupt output of the block with the interrupt number the board wires it to (R246, R252). -/
def State.irqLines (s : State) : List (Nat × Bool) :=
  (s.cfg.uart.wiring.zip s.uarts).map (fun p => (p.1.irq, p.2.irq))
    ++ (s.cfg.spi.wiring.zip s.spis).map (fun p => (p.1.irq, p.2.irq))

end Sys2Proof.Machine
end

