-- ==== Sys2Proof/Machine/Ops.lean ====
section
/-!
DEFINITION. The operations every meaning is built from: the FIFO primitives (40_common.md rules R90 to R93), the guest
error (R96), the dispatch of a bus access to an instance (R95), the outward calls `send` (R172) and `exchange` (R231),
the resets (R161, R230, R260) and the transfer cycle (R231).

The block has no trap (R248). Its one exceptional outcome is the guest error, ONE shared operation here,
`raiseGuestError`; there is nothing to save and nothing to return from.
-/

namespace Sys2Proof.Machine

/-- `fifo_push(f, e) -> ok` (R90): appends at the tail; when the FIFO is full nothing changes and the element is
dropped. -/
def fifoPush {α : Type} (cap : Nat) (f : List α) (e : α) : Bool × List α :=
  if f.length < cap then (true, f ++ [e]) else (false, f)

/-- `fifo_pop(f) -> (ok, e)` with the FIFO left behind (R91): removes the oldest element; an empty FIFO is unchanged
and gives 0. -/
def fifoPop {n : Nat} (f : List (BitVec n)) : Bool × BitVec n × List (BitVec n) :=
  match f with
  | [] => (false, 0, [])
  | e :: rest => (true, e, rest)

/-- `fifo_peek(f) -> (ok, e)` (R92). -/
def fifoPeek {n : Nat} (f : List (BitVec n)) : Bool × BitVec n :=
  match f with
  | [] => (false, 0)
  | e :: _ => (true, e)

/-- `fifo_clear(f)` (R93): the FIFO holds nothing. -/
def fifoClear {α : Type} (_ : List α) : List α := []

/-- The reply of an operation that returns nothing. -/
def Reply.done : Reply := { value := none, error := none }

/-- The reply of a read or query whose result is `w`. -/
def Reply.ofValue (w : Word) : Reply := { value := some w, error := none }

/-- `raise GuestError(kind)` (R96): the operation ends, the instance is unchanged, a read answers 0 and a write stores
nothing. `isRead` says which of the two was under way. -/
def raiseGuestError (kind : GuestError) (isRead : Bool) : Reply :=
  { value := if isRead then some 0#32 else none, error := some kind }

/-- The kind an invalid access reports: the first that applies in the order BadSize, Misaligned, OutOfRange (R240). -/
def invalidKind (size : Option Size) (off : Off) : GuestError :=
  match size with
  | none => .badSize
  | some z => if off.toNat % z.bytes = 0 then .outOfRange else .misaligned

/-- Performs an operation on UART instance `inst` (R95): the instance takes the state the rule gives it, every other
instance keeps its own (R51), and the reply is handed back. -/
def onUart (inst : Nat) (rule : Uart → Uart × Reply) (s : State) : Result :=
  match s.uarts[inst]? with
  | none => .refused (.noSuchInstance .uart inst)
  | some u => .next { s with uarts := s.uarts.set inst (rule u).1, reply := (rule u).2 }

/-- Performs an operation on SPI instance `inst` (R95). -/
def onSpi (inst : Nat) (rule : Spi → Spi × Reply) (s : State) : Result :=
  match s.spis[inst]? with
  | none => .refused (.noSuchInstance .spi inst)
  | some p => .next { s with spis := s.spis.set inst (rule p).1, reply := (rule p).2 }

/-- A valid UART bus read (R95): the register's rule gives a 32-bit result, truncated to the access size (R45). -/
def uartRead (inst : Nat) (size : Size) (rule : Uart → Uart × Word) (s : State) : Result :=
  onUart inst (fun u => ((rule u).1, Reply.ofValue (truncSize size (rule u).2))) s

/-- A valid UART bus write (R95): the register's rule takes the zero-extended word (R45). -/
def uartWrite (inst : Nat) (size : Size) (val : Word) (rule : Word → Uart → Uart) (s : State) : Result :=
  onUart inst (fun u => (rule (zextSize size val) u, Reply.done)) s

/-- A UART bus access that ends in a guest error (R96). -/
def uartGuestError (inst : Nat) (kind : GuestError) (isRead : Bool) (s : State) : Result :=
  onUart inst (fun u => (u, raiseGuestError kind isRead)) s

/-- A valid SPI bus read (R95, R45). -/
def spiRead (inst : Nat) (size : Size) (rule : Spi → Spi × Word) (s : State) : Result :=
  onSpi inst (fun p => ((rule p).1, Reply.ofValue (truncSize size (rule p).2))) s

/-- A valid SPI bus write (R95, R45). -/
def spiWrite (inst : Nat) (size : Size) (val : Word) (rule : Word → Spi → Spi) (s : State) : Result :=
  onSpi inst (fun p => (rule (zextSize size val) p, Reply.done)) s

/-- An SPI bus access that ends in a guest error (R96). -/
def spiGuestError (inst : Nat) (kind : GuestError) (isRead : Bool) (s : State) : Result :=
  onSpi inst (fun p => (p, raiseGuestError kind isRead)) s

/-- Plain read of register `r` (R97). -/
def Uart.plainRead (r : UartReg) (u : Uart) : Uart × Word := (u, u.reg r)

/-- Plain write of register `r` (R98). -/
def Uart.plainWrite (r : UartReg) (w : Word) (u : Uart) : Uart := u.setReg r w

/-- Plain read of register `r` (R97). -/
def Spi.plainRead (r : SpiReg) (p : Spi) : Spi × Word := (p, p.reg r)

/-- Plain write of register `r` (R98). -/
def Spi.plainWrite (r : SpiReg) (w : Word) (p : Spi) : Spi := p.setReg r w

/-- `send(u, b)` (R172): appends the byte to the output stream; never refused, no effect on the instance. -/
def Uart.send (b : Byte) (u : Uart) : Uart := { u with out := u.out ++ [b] }

/-- `uart_reset(u)` (R161): every stored register to its reset value (R33), both FIFOs cleared. The output stream
already sent stays (R263). -/
def Uart.resetAll (c : Config) (u : Uart) : Uart :=
  { u with regs := c.uart.reset, tx := fifoClear u.tx, rx := fifoClear u.rx }

/-- `SPI_PEER[i]` (R4); an index without wiring, which no reachable state has, counts as an external peer. -/
def peerOf (c : Config) (inst : Nat) : Peer :=
  match c.spi.wiring[inst]? with
  | some w => w.peer
  | none => .external

/-- `exchange(s, w)` (R3, R231): hands `w` to the peer and returns the peer's word: `w` itself from a loopback, any word
(`Config.peerAnswer`) from any other peer. -/
def Spi.exchange (c : Config) (inst : Nat) (w : Word) (p : Spi) : Spi × Word :=
  let sent := p.sent ++ [w]
  ({ p with sent := sent },
    match peerOf c inst with
    | .loopback => w
    | .external => Config.peerAnswer inst sent)

/-- `spi_soft_reset(s)` (R230): every stored register to its reset value (R34), both FIFOs cleared; `enabled` and
`master` keep their values. -/
def Spi.softReset (c : Config) (p : Spi) : Spi :=
  { p with regs := c.spi.reset, tx := fifoClear p.tx, rx := fifoClear p.rx }

/-- The power-on reset of an SPI instance (R260). -/
def Spi.powerOn (c : Config) (p : Spi) : Spi :=
  { p.softReset c with enabled := false, master := false }

/-- `spi_transfer_cycle(s)` (R231): pops the oldest queued word, exchanges it, pushes the answer or sets REF (SR 12),
sets WCF (8) and FCF (9), and TCF (10) if the TX FIFO is now empty. -/
def Spi.transferCycle (c : Config) (inst : Nat) (p : Spi) : Spi :=
  let popped := fifoPop p.tx
  let p1 : Spi := { p with tx := popped.2.2 }
  let x := p1.exchange c inst popped.2.1
  let pushed := fifoPush c.spi.rxCap x.1.rx x.2
  let p2 : Spi := { x.1 with rx := pushed.2 }
  let p3 : Spi := if pushed.1 then p2 else p2.setRegBit .sr 12 true
  let p4 : Spi := (p3.setRegBit .sr 8 true).setRegBit .sr 9 true
  if p4.tx.length = 0 then p4.setRegBit .sr 10 true else p4

/-- Takes the next pending operation (R49, R50): the one that comes first in the serialisation order, and the state
without it. `none` when no agent has issued any. -/
def State.nextRequest (s : State) : Option (Request × State) :=
  match s.ops with
  | [] => none
  | r :: rest => some (r, { s with ops := rest })

/-- Issues an operation so that it is the next one the block performs. -/
def State.issueFirst (s : State) (r : Request) : State := { s with ops := r :: s.ops }

end Sys2Proof.Machine
end

