-- ==== Sys2Proof/Machine/Events.lean ====
section
/-!
DEFINITION. The events (43_uart_events.md rules R170, R171; 70_reset_and_hazards.md rule R260), one definition per
operation.
-/

namespace Sys2Proof.Machine

/-- `on_receive(b)` (R170): with RE set, pushes the byte or sets OR (STAT 19) when the RX FIFO is full; with RE clear
the byte is dropped. RDRF (STAT 21) is re-derived in every case. -/
def Uart.onReceive (c : Config) (b : Byte) (u : Uart) : Uart :=
  let pushed := fifoPush c.uart.rxCap u.rx b
  let u1 : Uart :=
    if u.re then
      if pushed.1 then { u with rx := pushed.2 } else u.setRegBit .stat 19 true
    else u
  u1.setRegBit .stat 21 u1.rdrfCalc

/-- `can_accept()` (R171): the receiver is enabled and the RX FIFO has room. -/
def Uart.canAccept (c : Config) (u : Uart) : Bool := u.re && decide (u.rx.length < c.uart.rxCap)

/-- UART.EVT.POR (R260). The power-on reset. -/
def execUartEvtPor (inst : Nat) (s : State) : Result :=
  onUart inst (fun u => (u.resetAll s.cfg, Reply.done)) s

/-- UART.EVT.RX (R170). The receive callback. -/
def execUartEvtRx (inst : Nat) (b : Byte) (s : State) : Result :=
  onUart inst (fun u => (u.onReceive s.cfg b, Reply.done)) s

/-- UART.EVT.CANACC (R171). The query; no state changes. -/
def execUartEvtCanacc (inst : Nat) (s : State) : Result :=
  onUart inst (fun u => (u, Reply.ofValue (b2w (u.canAccept s.cfg)))) s

/-- SPI.EVT.POR (R260). The power-on reset. -/
def execSpiEvtPor (inst : Nat) (s : State) : Result :=
  onSpi inst (fun p => (p.powerOn s.cfg, Reply.done)) s

end Sys2Proof.Machine
end

