-- ==== Sys2Proof/Machine/SpiRead.lean ====
section
/-!
DEFINITION. The SPI bus reads (44_spi_read.md rules R180 to R199, 20_memory.md rule R43), one definition per operation. Only
RDR has a side effect (R47, R197).
-/

namespace Sys2Proof.Machine

/-- The RDR read (R197): pops the RX FIFO; an empty FIFO gives all ones and sets REF (SR 12). -/
def Spi.readRdr (p : Spi) : Spi × Word :=
  let popped := fifoPop p.rx
  let p1 : Spi := { p with rx := popped.2.2 }
  if popped.1 then (p1, popped.2.1) else (p1.setRegBit .sr 12 true, 0xFFFFFFFF#32)

/-- The RDROR read (R198): the head of the RX FIFO without popping, all ones when it is empty. -/
def Spi.readRdror (p : Spi) : Spi × Word :=
  let peeked := fifoPeek p.rx
  (p, if peeked.1 then peeked.2 else 0xFFFFFFFF#32)

/-- SPI.RD.VERID (R180). The constant `SPI_VERID_RESET`. -/
def execSpiRdVerid (inst : Nat) (size : Size) (s : State) : Result :=
  spiRead inst size (fun p => (p, s.cfg.spi.verid)) s

/-- SPI.RD.PARAM (R181). The constant `SPI_PARAM_RESET`. -/
def execSpiRdParam (inst : Nat) (size : Size) (s : State) : Result :=
  spiRead inst size (fun p => (p, s.cfg.spi.param)) s

/-- SPI.RD.CR (R182). The stored word. -/
def execSpiRdCr (inst : Nat) (size : Size) (s : State) : Result :=
  spiRead inst size (Spi.plainRead .cr) s

/-- SPI.RD.SR (R183). The sticky bits with TDF and RDF computed. -/
def execSpiRdSr (inst : Nat) (size : Size) (s : State) : Result :=
  spiRead inst size (fun p => (p, p.srLive)) s

/-- SPI.RD.IER (R184). The stored word. -/
def execSpiRdIer (inst : Nat) (size : Size) (s : State) : Result :=
  spiRead inst size (Spi.plainRead .ier) s

/-- SPI.RD.DER (R185). The stored word. -/
def execSpiRdDer (inst : Nat) (size : Size) (s : State) : Result :=
  spiRead inst size (Spi.plainRead .der) s

/-- SPI.RD.CFGR0 (R186). The stored word. -/
def execSpiRdCfgr0 (inst : Nat) (size : Size) (s : State) : Result :=
  spiRead inst size (Spi.plainRead .cfgr0) s

/-- SPI.RD.CFGR1 (R187). The stored word. -/
def execSpiRdCfgr1 (inst : Nat) (size : Size) (s : State) : Result :=
  spiRead inst size (Spi.plainRead .cfgr1) s

/-- SPI.RD.DMR0 (R188). The stored word. -/
def execSpiRdDmr0 (inst : Nat) (size : Size) (s : State) : Result :=
  spiRead inst size (Spi.plainRead .dmr0) s

/-- SPI.RD.DMR1 (R189). The stored word. -/
def execSpiRdDmr1 (inst : Nat) (size : Size) (s : State) : Result :=
  spiRead inst size (Spi.plainRead .dmr1) s

/-- SPI.RD.CCR (R190). The stored word. -/
def execSpiRdCcr (inst : Nat) (size : Size) (s : State) : Result :=
  spiRead inst size (Spi.plainRead .ccr) s

/-- SPI.RD.CCR1 (R191). The stored word. -/
def execSpiRdCcr1 (inst : Nat) (size : Size) (s : State) : Result :=
  spiRead inst size (Spi.plainRead .ccr1) s

/-- SPI.RD.FCR (R192). The stored word. -/
def execSpiRdFcr (inst : Nat) (size : Size) (s : State) : Result :=
  spiRead inst size (Spi.plainRead .fcr) s

/-- SPI.RD.FSR (R193). The occupancies. -/
def execSpiRdFsr (inst : Nat) (size : Size) (s : State) : Result :=
  spiRead inst size (fun p => (p, p.fsr)) s

/-- SPI.RD.TCR (R194). The stored word. -/
def execSpiRdTcr (inst : Nat) (size : Size) (s : State) : Result :=
  spiRead inst size (Spi.plainRead .tcr) s

/-- SPI.RD.TDR (R195). A read of a write-only register. -/
def execSpiRdTdr (inst : Nat) (_size : Size) (s : State) : Result :=
  spiGuestError inst .readOfWriteOnly true s

/-- SPI.RD.RSR (R196). RXEMPTY. -/
def execSpiRdRsr (inst : Nat) (size : Size) (s : State) : Result :=
  spiRead inst size (fun p => (p, p.rsr)) s

/-- SPI.RD.RDR (R197). Pops the RX FIFO. -/
def execSpiRdRdr (inst : Nat) (size : Size) (s : State) : Result :=
  spiRead inst size Spi.readRdr s

/-- SPI.RD.RDROR (R198). Peeks the RX FIFO. -/
def execSpiRdRdror (inst : Nat) (size : Size) (s : State) : Result :=
  spiRead inst size Spi.readRdror s

/-- SPI.RD.UNKNOWN (R199). A valid access that selects no register. -/
def execSpiRdUnknown (inst : Nat) (_size : Size) (_off : Off) (s : State) : Result :=
  spiGuestError inst .unknownOffset true s

/-- SPI.RD.INVALID (R43). An access that R42 does not admit. -/
def execSpiRdInvalid (inst : Nat) (size : Option Size) (off : Off) (s : State) : Result :=
  spiGuestError inst (invalidKind size off) true s

end Sys2Proof.Machine
end

