-- ==== Sys2Proof/Machine/SpiWrite.lean ====
section
/-!
DEFINITION. The SPI bus writes and the transfer-initiation sequencer (45_spi_write.md rules R210 to R229, 20_memory.md rule
R43), one definition per operation.
-/

namespace Sys2Proof.Machine

/-- The CR write (R212): with RST (bit 1) the soft reset and nothing else; otherwise the word is stored with its action
bits clear, MEN (bit 0) becomes `enabled`, and RTF (8) and RRF (9) clear their FIFO. -/
def Spi.writeCr (c : Config) (w : Word) (p : Spi) : Spi :=
  if w.getLsbD 1 then p.softReset c
  else
    let p1 : Spi := p.setReg .cr (w &&& ~~~0x00000302#32)
    let p2 : Spi := { p1 with enabled := w.getLsbD 0 }
    let p3 : Spi := if w.getLsbD 8 then { p2 with tx := fifoClear p2.tx } else p2
    if w.getLsbD 9 then { p3 with rx := fifoClear p3.rx } else p3

/-- The SR write (R213): write-1-to-clear of WCF, FCF, TCF, TEF, REF (12:8). -/
def Spi.writeSr (w : Word) (p : Spi) : Spi :=
  p.setReg .sr (clearOnes (p.reg .sr) w 0x00001F00#32)

/-- The CFGR1 write (R217): stored, and MASTER (bit 0) latched. -/
def Spi.writeCfgr1 (w : Word) (p : Spi) : Spi :=
  { p.setReg .cfgr1 w with master := w.getLsbD 0 }

/-- The TDR write (R225): pushes the word, or sets TEF (SR 11) when the TX FIFO is full; after a push exactly one
transfer cycle runs if the module is enabled. -/
def Spi.writeTdr (c : Config) (inst : Nat) (w : Word) (p : Spi) : Spi :=
  let pushed := fifoPush c.spi.txCap p.tx w
  let p1 : Spi := { p with tx := pushed.2 }
  if pushed.1 then
    if p1.enabled then p1.transferCycle c inst else p1
  else p1.setRegBit .sr 11 true

/-- SPI.WR.VERID (R210). A write to a read-only register. -/
def execSpiWrVerid (inst : Nat) (_size : Size) (_val : Word) (s : State) : Result :=
  spiGuestError inst .writeToReadOnly false s

/-- SPI.WR.PARAM (R211). A write to a read-only register. -/
def execSpiWrParam (inst : Nat) (_size : Size) (_val : Word) (s : State) : Result :=
  spiGuestError inst .writeToReadOnly false s

/-- SPI.WR.CR (R212). RST resets; otherwise stored, enabling and flushing. -/
def execSpiWrCr (inst : Nat) (size : Size) (val : Word) (s : State) : Result :=
  spiWrite inst size val (Spi.writeCr s.cfg) s

/-- SPI.WR.SR (R213). Write-1-to-clear. -/
def execSpiWrSr (inst : Nat) (size : Size) (val : Word) (s : State) : Result :=
  spiWrite inst size val Spi.writeSr s

/-- SPI.WR.IER (R214). Plain store. -/
def execSpiWrIer (inst : Nat) (size : Size) (val : Word) (s : State) : Result :=
  spiWrite inst size val (Spi.plainWrite .ier) s

/-- SPI.WR.DER (R215). Plain store. -/
def execSpiWrDer (inst : Nat) (size : Size) (val : Word) (s : State) : Result :=
  spiWrite inst size val (Spi.plainWrite .der) s

/-- SPI.WR.CFGR0 (R216). Plain store. -/
def execSpiWrCfgr0 (inst : Nat) (size : Size) (val : Word) (s : State) : Result :=
  spiWrite inst size val (Spi.plainWrite .cfgr0) s

/-- SPI.WR.CFGR1 (R217). Stored, MASTER latched. -/
def execSpiWrCfgr1 (inst : Nat) (size : Size) (val : Word) (s : State) : Result :=
  spiWrite inst size val Spi.writeCfgr1 s

/-- SPI.WR.DMR0 (R218). Plain store. -/
def execSpiWrDmr0 (inst : Nat) (size : Size) (val : Word) (s : State) : Result :=
  spiWrite inst size val (Spi.plainWrite .dmr0) s

/-- SPI.WR.DMR1 (R219). Plain store. -/
def execSpiWrDmr1 (inst : Nat) (size : Size) (val : Word) (s : State) : Result :=
  spiWrite inst size val (Spi.plainWrite .dmr1) s

/-- SPI.WR.CCR (R220). Plain store. -/
def execSpiWrCcr (inst : Nat) (size : Size) (val : Word) (s : State) : Result :=
  spiWrite inst size val (Spi.plainWrite .ccr) s

/-- SPI.WR.CCR1 (R221). Plain store. -/
def execSpiWrCcr1 (inst : Nat) (size : Size) (val : Word) (s : State) : Result :=
  spiWrite inst size val (Spi.plainWrite .ccr1) s

/-- SPI.WR.FCR (R222). Plain store. -/
def execSpiWrFcr (inst : Nat) (size : Size) (val : Word) (s : State) : Result :=
  spiWrite inst size val (Spi.plainWrite .fcr) s

/-- SPI.WR.FSR (R223). A write to a read-only register. -/
def execSpiWrFsr (inst : Nat) (_size : Size) (_val : Word) (s : State) : Result :=
  spiGuestError inst .writeToReadOnly false s

/-- SPI.WR.TCR (R224). Plain store. -/
def execSpiWrTcr (inst : Nat) (size : Size) (val : Word) (s : State) : Result :=
  spiWrite inst size val (Spi.plainWrite .tcr) s

/-- SPI.WR.TDR (R225). The transfer-initiation sequencer. -/
def execSpiWrTdr (inst : Nat) (size : Size) (val : Word) (s : State) : Result :=
  spiWrite inst size val (Spi.writeTdr s.cfg inst) s

/-- SPI.WR.RSR (R226). A write to a read-only register. -/
def execSpiWrRsr (inst : Nat) (_size : Size) (_val : Word) (s : State) : Result :=
  spiGuestError inst .writeToReadOnly false s

/-- SPI.WR.RDR (R227). A write to a read-only register. -/
def execSpiWrRdr (inst : Nat) (_size : Size) (_val : Word) (s : State) : Result :=
  spiGuestError inst .writeToReadOnly false s

/-- SPI.WR.RDROR (R228). A write to a read-only register. -/
def execSpiWrRdror (inst : Nat) (_size : Size) (_val : Word) (s : State) : Result :=
  spiGuestError inst .writeToReadOnly false s

/-- SPI.WR.UNKNOWN (R229). A valid access that selects no register. -/
def execSpiWrUnknown (inst : Nat) (_size : Size) (_off : Off) (_val : Word) (s : State) : Result :=
  spiGuestError inst .unknownOffset false s

/-- SPI.WR.INVALID (R43). An access that R42 does not admit. -/
def execSpiWrInvalid (inst : Nat) (size : Option Size) (off : Off) (_val : Word) (s : State) : Result :=
  spiGuestError inst (invalidKind size off) false s

end Sys2Proof.Machine
end

