-- ==== Sys2Proof/Machine/UartRead.lean ====
section
/-!
DEFINITION. The UART bus reads (41_uart_read.md rules R110 to R130, 20_memory.md rule R43), one definition per operation. Only
DATA has a side effect (R47, R117).
-/

namespace Sys2Proof.Machine

/-- The DATA read (R117): pops the RX FIFO into DATA; an empty FIFO gives 0 and sets RXUF (FIFO 16). RDRF (STAT 21) is
re-derived from the new occupancy. -/
def Uart.readData (u : Uart) : Uart × Word :=
  let popped := fifoPop u.rx
  let u1 : Uart := { u with rx := popped.2.2 }
  let u2 : Uart :=
    if popped.1 then u1.setReg .data (byteToWord popped.2.1)
    else (u1.setReg .data 0#32).setRegBit .fifo 16 true
  let u3 : Uart := u2.setRegBit .stat 21 u2.rdrfCalc
  (u3, u3.reg .data)

/-- UART.RD.VERID (R110). The constant `UART_VERID_RESET`. -/
def execUartRdVerid (inst : Nat) (size : Size) (s : State) : Result :=
  uartRead inst size (fun u => (u, s.cfg.uart.verid)) s

/-- UART.RD.PARAM (R111). The constant `UART_PARAM_RESET`. -/
def execUartRdParam (inst : Nat) (size : Size) (s : State) : Result :=
  uartRead inst size (fun u => (u, s.cfg.uart.param)) s

/-- UART.RD.GLOBAL (R112). The stored word. -/
def execUartRdGlobal (inst : Nat) (size : Size) (s : State) : Result :=
  uartRead inst size (Uart.plainRead .global) s

/-- UART.RD.PINCFG (R113). The stored word. -/
def execUartRdPincfg (inst : Nat) (size : Size) (s : State) : Result :=
  uartRead inst size (Uart.plainRead .pincfg) s

/-- UART.RD.BAUD (R114). The stored word. -/
def execUartRdBaud (inst : Nat) (size : Size) (s : State) : Result :=
  uartRead inst size (Uart.plainRead .baud) s

/-- UART.RD.STAT (R115). The stored word, not recomputed at read (90_conflicts.md C1). -/
def execUartRdStat (inst : Nat) (size : Size) (s : State) : Result :=
  uartRead inst size (Uart.plainRead .stat) s

/-- UART.RD.CTRL (R116). The stored word. -/
def execUartRdCtrl (inst : Nat) (size : Size) (s : State) : Result :=
  uartRead inst size (Uart.plainRead .ctrl) s

/-- UART.RD.DATA (R117). Pops the RX FIFO. -/
def execUartRdData (inst : Nat) (size : Size) (s : State) : Result :=
  uartRead inst size Uart.readData s

/-- UART.RD.MATCH (R118). The stored word. -/
def execUartRdMatch (inst : Nat) (size : Size) (s : State) : Result :=
  uartRead inst size (Uart.plainRead .matchReg) s

/-- UART.RD.MODIR (R119). The stored word. -/
def execUartRdModir (inst : Nat) (size : Size) (s : State) : Result :=
  uartRead inst size (Uart.plainRead .modir) s

/-- UART.RD.FIFO (R120). The stored word with its live bits. -/
def execUartRdFifo (inst : Nat) (size : Size) (s : State) : Result :=
  uartRead inst size (fun u => (u, u.fifoLive)) s

/-- UART.RD.WATER (R121). The stored watermarks with the live counts. -/
def execUartRdWater (inst : Nat) (size : Size) (s : State) : Result :=
  uartRead inst size (fun u => (u, u.waterLive)) s

/-- UART.RD.DATARO (R122). The constant 0; the RX FIFO is not looked at (log 11). -/
def execUartRdDataro (inst : Nat) (size : Size) (s : State) : Result :=
  uartRead inst size (fun u => (u, 0#32)) s

/-- UART.RD.MCR (R123). The stored word. -/
def execUartRdMcr (inst : Nat) (size : Size) (s : State) : Result :=
  uartRead inst size (Uart.plainRead .mcr) s

/-- UART.RD.MSR (R124). The stored word. -/
def execUartRdMsr (inst : Nat) (size : Size) (s : State) : Result :=
  uartRead inst size (Uart.plainRead .msr) s

/-- UART.RD.REIR (R125). The stored word. -/
def execUartRdReir (inst : Nat) (size : Size) (s : State) : Result :=
  uartRead inst size (Uart.plainRead .reir) s

/-- UART.RD.TEIR (R126). The stored word. -/
def execUartRdTeir (inst : Nat) (size : Size) (s : State) : Result :=
  uartRead inst size (Uart.plainRead .teir) s

/-- UART.RD.HDCR (R127). The stored word. -/
def execUartRdHdcr (inst : Nat) (size : Size) (s : State) : Result :=
  uartRead inst size (Uart.plainRead .hdcr) s

/-- UART.RD.TOCR (R128). The stored word. -/
def execUartRdTocr (inst : Nat) (size : Size) (s : State) : Result :=
  uartRead inst size (Uart.plainRead .tocr) s

/-- UART.RD.TOSR (R129). The stored word. -/
def execUartRdTosr (inst : Nat) (size : Size) (s : State) : Result :=
  uartRead inst size (Uart.plainRead .tosr) s

/-- UART.RD.UNKNOWN (R130). A valid access that selects no register. -/
def execUartRdUnknown (inst : Nat) (_size : Size) (_off : Off) (s : State) : Result :=
  uartGuestError inst .unknownOffset true s

/-- UART.RD.INVALID (R43). An access that R42 does not admit. -/
def execUartRdInvalid (inst : Nat) (size : Option Size) (off : Off) (s : State) : Result :=
  uartGuestError inst (invalidKind size off) true s

end Sys2Proof.Machine
end

