-- ==== Sys2Proof/Machine/UartWrite.lean ====
section
/-!
DEFINITION. The UART bus writes (42_uart_write.md rules R140 to R160, 20_memory.md rule R43), one definition per
operation.
-/

namespace Sys2Proof.Machine

/-- The GLOBAL write (R142): with RST (bit 0) the soft reset and nothing else, otherwise the word is stored. -/
def Uart.writeGlobal (c : Config) (w : Word) (u : Uart) : Uart :=
  if w.getLsbD 0 then u.resetAll c else u.setReg .global w

/-- The STAT write (R145): write-1-to-clear of PF, FE, NF, OR (19:16); every other bit is read-only. -/
def Uart.writeStat (w : Word) (u : Uart) : Uart :=
  u.setReg .stat (clearOnes (u.reg .stat) w 0x000F0000#32)

/-- The CTRL write (R146): stores the word; a 0 to 1 edge of TE sets TDRE (STAT 23) and clears TC (STAT 22), a 1 to 0
edge with the TX FIFO empty sets TC. -/
def Uart.writeCtrl (w : Word) (u : Uart) : Uart :=
  let newTe := w.getLsbD 19
  let u1 : Uart := u.setReg .ctrl w
  let u2 : Uart := if !u.te && newTe then (u1.setRegBit .stat 23 true).setRegBit .stat 22 false else u1
  if u.te && !newTe && decide (u.tx.length = 0) then u2.setRegBit .stat 22 true else u2

/-- The DATA write (R147): with TE set, pushes the byte, then pops the oldest byte and sends it, or sets TXOF (FIFO 17)
when the TX FIFO is full; TDRE and TC are recomputed. With TE clear nothing happens. -/
def Uart.writeData (c : Config) (w : Word) (u : Uart) : Uart :=
  if u.te then
    let pushed := fifoPush c.uart.txCap u.tx (lowByte w)
    let u1 : Uart := { u with tx := pushed.2 }
    let u2 : Uart :=
      if pushed.1 then
        let popped := fifoPop u1.tx
        ({ u1 with tx := popped.2.2 } : Uart).send popped.2.1
      else u1.setRegBit .fifo 17 true
    let u3 : Uart := u2.setRegBit .stat 23 u2.tdreCalc
    u3.setRegBit .stat 22 u3.tcCalc
  else u

/-- The FIFO write (R150): RXUF and TXOF (17:16) are write-1-to-clear, every other bit is stored as written. -/
def Uart.writeFifo (w : Word) (u : Uart) : Uart :=
  let sticky := u.reg .fifo &&& 0x00030000#32 &&& ~~~w
  u.setReg .fifo ((w &&& ~~~0x00030000#32) ||| sticky)

/-- UART.WR.VERID (R140). A write to a read-only register. -/
def execUartWrVerid (inst : Nat) (_size : Size) (_val : Word) (s : State) : Result :=
  uartGuestError inst .writeToReadOnly false s

/-- UART.WR.PARAM (R141). A write to a read-only register. -/
def execUartWrParam (inst : Nat) (_size : Size) (_val : Word) (s : State) : Result :=
  uartGuestError inst .writeToReadOnly false s

/-- UART.WR.GLOBAL (R142). RST resets; otherwise stored. -/
def execUartWrGlobal (inst : Nat) (size : Size) (val : Word) (s : State) : Result :=
  uartWrite inst size val (Uart.writeGlobal s.cfg) s

/-- UART.WR.PINCFG (R143). Plain store. -/
def execUartWrPincfg (inst : Nat) (size : Size) (val : Word) (s : State) : Result :=
  uartWrite inst size val (Uart.plainWrite .pincfg) s

/-- UART.WR.BAUD (R144). Plain store. -/
def execUartWrBaud (inst : Nat) (size : Size) (val : Word) (s : State) : Result :=
  uartWrite inst size val (Uart.plainWrite .baud) s

/-- UART.WR.STAT (R145). Write-1-to-clear. -/
def execUartWrStat (inst : Nat) (size : Size) (val : Word) (s : State) : Result :=
  uartWrite inst size val Uart.writeStat s

/-- UART.WR.CTRL (R146). Stored, with the effects of the TE edges. -/
def execUartWrCtrl (inst : Nat) (size : Size) (val : Word) (s : State) : Result :=
  uartWrite inst size val Uart.writeCtrl s

/-- UART.WR.DATA (R147). Transmits a byte. -/
def execUartWrData (inst : Nat) (size : Size) (val : Word) (s : State) : Result :=
  uartWrite inst size val (Uart.writeData s.cfg) s

/-- UART.WR.MATCH (R148). Plain store. -/
def execUartWrMatch (inst : Nat) (size : Size) (val : Word) (s : State) : Result :=
  uartWrite inst size val (Uart.plainWrite .matchReg) s

/-- UART.WR.MODIR (R149). Plain store. -/
def execUartWrModir (inst : Nat) (size : Size) (val : Word) (s : State) : Result :=
  uartWrite inst size val (Uart.plainWrite .modir) s

/-- UART.WR.FIFO (R150). Stored, with write-1-to-clear sticky bits. -/
def execUartWrFifo (inst : Nat) (size : Size) (val : Word) (s : State) : Result :=
  uartWrite inst size val Uart.writeFifo s

/-- UART.WR.WATER (R151). Stored; no flag is re-derived (R269). -/
def execUartWrWater (inst : Nat) (size : Size) (val : Word) (s : State) : Result :=
  uartWrite inst size val (Uart.plainWrite .water) s

/-- UART.WR.DATARO (R152). A write to a read-only register. -/
def execUartWrDataro (inst : Nat) (_size : Size) (_val : Word) (s : State) : Result :=
  uartGuestError inst .writeToReadOnly false s

/-- UART.WR.MCR (R153). Plain store. -/
def execUartWrMcr (inst : Nat) (size : Size) (val : Word) (s : State) : Result :=
  uartWrite inst size val (Uart.plainWrite .mcr) s

/-- UART.WR.MSR (R154). Plain store. -/
def execUartWrMsr (inst : Nat) (size : Size) (val : Word) (s : State) : Result :=
  uartWrite inst size val (Uart.plainWrite .msr) s

/-- UART.WR.REIR (R155). Plain store. -/
def execUartWrReir (inst : Nat) (size : Size) (val : Word) (s : State) : Result :=
  uartWrite inst size val (Uart.plainWrite .reir) s

/-- UART.WR.TEIR (R156). Plain store. -/
def execUartWrTeir (inst : Nat) (size : Size) (val : Word) (s : State) : Result :=
  uartWrite inst size val (Uart.plainWrite .teir) s

/-- UART.WR.HDCR (R157). Plain store. -/
def execUartWrHdcr (inst : Nat) (size : Size) (val : Word) (s : State) : Result :=
  uartWrite inst size val (Uart.plainWrite .hdcr) s

/-- UART.WR.TOCR (R158). Plain store. -/
def execUartWrTocr (inst : Nat) (size : Size) (val : Word) (s : State) : Result :=
  uartWrite inst size val (Uart.plainWrite .tocr) s

/-- UART.WR.TOSR (R159). Plain store. -/
def execUartWrTosr (inst : Nat) (size : Size) (val : Word) (s : State) : Result :=
  uartWrite inst size val (Uart.plainWrite .tosr) s

/-- UART.WR.UNKNOWN (R160). A valid access that selects no register. -/
def execUartWrUnknown (inst : Nat) (_size : Size) (_off : Off) (_val : Word) (s : State) : Result :=
  uartGuestError inst .unknownOffset false s

/-- UART.WR.INVALID (R43). An access that R42 does not admit. -/
def execUartWrInvalid (inst : Nat) (size : Option Size) (off : Off) (_val : Word) (s : State) : Result :=
  uartGuestError inst (invalidKind size off) false s

end Sys2Proof.Machine
end

