-- ==== Sys2Proof/Machine/Dispatch.lean ====
section
/-!
DEFINITION. The dispatch of an operation to its meaning, one arm per constructor of `Instr` (30_encoding.md rules R63 to R65).
-/

namespace Sys2Proof.Machine

def exec (i : Instr) (s : State) : Host.Outcome State Fault Refusal :=
  match i with
  | .uartRdVerid inst size => Sys2Proof.Machine.execUartRdVerid inst size s
  | .uartRdParam inst size => Sys2Proof.Machine.execUartRdParam inst size s
  | .uartRdGlobal inst size => Sys2Proof.Machine.execUartRdGlobal inst size s
  | .uartRdPincfg inst size => Sys2Proof.Machine.execUartRdPincfg inst size s
  | .uartRdBaud inst size => Sys2Proof.Machine.execUartRdBaud inst size s
  | .uartRdStat inst size => Sys2Proof.Machine.execUartRdStat inst size s
  | .uartRdCtrl inst size => Sys2Proof.Machine.execUartRdCtrl inst size s
  | .uartRdData inst size => Sys2Proof.Machine.execUartRdData inst size s
  | .uartRdMatch inst size => Sys2Proof.Machine.execUartRdMatch inst size s
  | .uartRdModir inst size => Sys2Proof.Machine.execUartRdModir inst size s
  | .uartRdFifo inst size => Sys2Proof.Machine.execUartRdFifo inst size s
  | .uartRdWater inst size => Sys2Proof.Machine.execUartRdWater inst size s
  | .uartRdDataro inst size => Sys2Proof.Machine.execUartRdDataro inst size s
  | .uartRdMcr inst size => Sys2Proof.Machine.execUartRdMcr inst size s
  | .uartRdMsr inst size => Sys2Proof.Machine.execUartRdMsr inst size s
  | .uartRdReir inst size => Sys2Proof.Machine.execUartRdReir inst size s
  | .uartRdTeir inst size => Sys2Proof.Machine.execUartRdTeir inst size s
  | .uartRdHdcr inst size => Sys2Proof.Machine.execUartRdHdcr inst size s
  | .uartRdTocr inst size => Sys2Proof.Machine.execUartRdTocr inst size s
  | .uartRdTosr inst size => Sys2Proof.Machine.execUartRdTosr inst size s
  | .uartRdUnknown inst size off => Sys2Proof.Machine.execUartRdUnknown inst size off s
  | .uartRdInvalid inst size off => Sys2Proof.Machine.execUartRdInvalid inst size off s
  | .uartWrVerid inst size val => Sys2Proof.Machine.execUartWrVerid inst size val s
  | .uartWrParam inst size val => Sys2Proof.Machine.execUartWrParam inst size val s
  | .uartWrGlobal inst size val => Sys2Proof.Machine.execUartWrGlobal inst size val s
  | .uartWrPincfg inst size val => Sys2Proof.Machine.execUartWrPincfg inst size val s
  | .uartWrBaud inst size val => Sys2Proof.Machine.execUartWrBaud inst size val s
  | .uartWrStat inst size val => Sys2Proof.Machine.execUartWrStat inst size val s
  | .uartWrCtrl inst size val => Sys2Proof.Machine.execUartWrCtrl inst size val s
  | .uartWrData inst size val => Sys2Proof.Machine.execUartWrData inst size val s
  | .uartWrMatch inst size val => Sys2Proof.Machine.execUartWrMatch inst size val s
  | .uartWrModir inst size val => Sys2Proof.Machine.execUartWrModir inst size val s
  | .uartWrFifo inst size val => Sys2Proof.Machine.execUartWrFifo inst size val s
  | .uartWrWater inst size val => Sys2Proof.Machine.execUartWrWater inst size val s
  | .uartWrDataro inst size val => Sys2Proof.Machine.execUartWrDataro inst size val s
  | .uartWrMcr inst size val => Sys2Proof.Machine.execUartWrMcr inst size val s
  | .uartWrMsr inst size val => Sys2Proof.Machine.execUartWrMsr inst size val s
  | .uartWrReir inst size val => Sys2Proof.Machine.execUartWrReir inst size val s
  | .uartWrTeir inst size val => Sys2Proof.Machine.execUartWrTeir inst size val s
  | .uartWrHdcr inst size val => Sys2Proof.Machine.execUartWrHdcr inst size val s
  | .uartWrTocr inst size val => Sys2Proof.Machine.execUartWrTocr inst size val s
  | .uartWrTosr inst size val => Sys2Proof.Machine.execUartWrTosr inst size val s
  | .uartWrUnknown inst size off val => Sys2Proof.Machine.execUartWrUnknown inst size off val s
  | .uartWrInvalid inst size off val => Sys2Proof.Machine.execUartWrInvalid inst size off val s
  | .spiRdVerid inst size => Sys2Proof.Machine.execSpiRdVerid inst size s
  | .spiRdParam inst size => Sys2Proof.Machine.execSpiRdParam inst size s
  | .spiRdCr inst size => Sys2Proof.Machine.execSpiRdCr inst size s
  | .spiRdSr inst size => Sys2Proof.Machine.execSpiRdSr inst size s
  | .spiRdIer inst size => Sys2Proof.Machine.execSpiRdIer inst size s
  | .spiRdDer inst size => Sys2Proof.Machine.execSpiRdDer inst size s
  | .spiRdCfgr0 inst size => Sys2Proof.Machine.execSpiRdCfgr0 inst size s
  | .spiRdCfgr1 inst size => Sys2Proof.Machine.execSpiRdCfgr1 inst size s
  | .spiRdDmr0 inst size => Sys2Proof.Machine.execSpiRdDmr0 inst size s
  | .spiRdDmr1 inst size => Sys2Proof.Machine.execSpiRdDmr1 inst size s
  | .spiRdCcr inst size => Sys2Proof.Machine.execSpiRdCcr inst size s
  | .spiRdCcr1 inst size => Sys2Proof.Machine.execSpiRdCcr1 inst size s
  | .spiRdFcr inst size => Sys2Proof.Machine.execSpiRdFcr inst size s
  | .spiRdFsr inst size => Sys2Proof.Machine.execSpiRdFsr inst size s
  | .spiRdTcr inst size => Sys2Proof.Machine.execSpiRdTcr inst size s
  | .spiRdTdr inst size => Sys2Proof.Machine.execSpiRdTdr inst size s
  | .spiRdRsr inst size => Sys2Proof.Machine.execSpiRdRsr inst size s
  | .spiRdRdr inst size => Sys2Proof.Machine.execSpiRdRdr inst size s
  | .spiRdRdror inst size => Sys2Proof.Machine.execSpiRdRdror inst size s
  | .spiRdUnknown inst size off => Sys2Proof.Machine.execSpiRdUnknown inst size off s
  | .spiRdInvalid inst size off => Sys2Proof.Machine.execSpiRdInvalid inst size off s
  | .spiWrVerid inst size val => Sys2Proof.Machine.execSpiWrVerid inst size val s
  | .spiWrParam inst size val => Sys2Proof.Machine.execSpiWrParam inst size val s
  | .spiWrCr inst size val => Sys2Proof.Machine.execSpiWrCr inst size val s
  | .spiWrSr inst size val => Sys2Proof.Machine.execSpiWrSr inst size val s
  | .spiWrIer inst size val => Sys2Proof.Machine.execSpiWrIer inst size val s
  | .spiWrDer inst size val => Sys2Proof.Machine.execSpiWrDer inst size val s
  | .spiWrCfgr0 inst size val => Sys2Proof.Machine.execSpiWrCfgr0 inst size val s
  | .spiWrCfgr1 inst size val => Sys2Proof.Machine.execSpiWrCfgr1 inst size val s
  | .spiWrDmr0 inst size val => Sys2Proof.Machine.execSpiWrDmr0 inst size val s
  | .spiWrDmr1 inst size val => Sys2Proof.Machine.execSpiWrDmr1 inst size val s
  | .spiWrCcr inst size val => Sys2Proof.Machine.execSpiWrCcr inst size val s
  | .spiWrCcr1 inst size val => Sys2Proof.Machine.execSpiWrCcr1 inst size val s
  | .spiWrFcr inst size val => Sys2Proof.Machine.execSpiWrFcr inst size val s
  | .spiWrFsr inst size val => Sys2Proof.Machine.execSpiWrFsr inst size val s
  | .spiWrTcr inst size val => Sys2Proof.Machine.execSpiWrTcr inst size val s
  | .spiWrTdr inst size val => Sys2Proof.Machine.execSpiWrTdr inst size val s
  | .spiWrRsr inst size val => Sys2Proof.Machine.execSpiWrRsr inst size val s
  | .spiWrRdr inst size val => Sys2Proof.Machine.execSpiWrRdr inst size val s
  | .spiWrRdror inst size val => Sys2Proof.Machine.execSpiWrRdror inst size val s
  | .spiWrUnknown inst size off val => Sys2Proof.Machine.execSpiWrUnknown inst size off val s
  | .spiWrInvalid inst size off val => Sys2Proof.Machine.execSpiWrInvalid inst size off val s
  | .uartEvtPor inst => Sys2Proof.Machine.execUartEvtPor inst s
  | .uartEvtRx inst b => Sys2Proof.Machine.execUartEvtRx inst b s
  | .uartEvtCanacc inst => Sys2Proof.Machine.execUartEvtCanacc inst s
  | .spiEvtPor inst => Sys2Proof.Machine.execSpiEvtPor inst s

end Sys2Proof.Machine
end

