-- ==== Sys2Proof/Machine/Step.lean ====
section
/-!
DEFINITION. One step of the machine: one whole operation, atomically (20_memory.md rules R2, R49, R50, R95).
-/

namespace Sys2Proof.Machine

/-- Performs the next pending operation: decodes its request (R62) and executes it. A request that is no operation is
refused by name. With no operation pending nothing happens, for no passage of time changes an instance (R2; log 5). -/
def step (s : State) : Host.Outcome State Fault Refusal :=
  match s.nextRequest with
  | none => .next s
  | some (r, s') =>
    match decode s.cfg r with
    | .error why => .refused (.notAnOperation why)
    | .ok i => exec i s'

/-- `s` with the operation of the table word `w` issued to instance 0 as the next one (log 5). -/
def State.withFetchWord (s : State) (nbits w : Nat) : State := s.issueFirst (tableRequest nbits w)

end Sys2Proof.Machine
end

