-- ==== Sys2Proof/Machine/Bus.lean ====
section
/-!
DEFINITION. The bus dispatcher's side of the block (20_memory.md rules R40 to R42, R46, R55): how a load, store or
fetch of the bus master becomes a request to an instance. The dispatcher is an external collaborator; it is here
because the rules say what the block receives from it.
-/

namespace Sys2Proof.Machine

/-- How the dispatcher presents an instruction fetch to the block. The spec says two things of a fetch and
90_conflicts.md chooses neither; the model has both (DESIGN CHOICE, log 15). -/
inductive FetchForm where
  /-- As a `read`, one of the two accesses the block distinguishes (R55): "it is an ordinary read (with side effects)"
  (92_eei_decisions.md D4). -/
  | asRead
  /-- As a fetch: the block has no port for it, "and a model must refuse it" (R55). -/
  | asFetch
  deriving DecidableEq, Repr

/-- What the bus master does: `MemRead(addr, n)`, `MemWrite(addr, n, v)` (00_scope.md section 7), or an instruction
fetch (R55, 92_eei_decisions.md D4). -/
inductive BusAccess where
  | load (addr n : Nat)
  | store (addr n value : Nat)
  | fetch (form : FetchForm) (addr n : Nat)
  deriving DecidableEq, Repr

/-- The address lies in the region `[base, base + size)` (R40). -/
def inRegion (base size addr : Nat) : Bool := decide (base ≤ addr ∧ addr < base + size)

/-- The first region of the list that holds the address: its index and the offset in it (R40, R41). -/
def findRegion (size addr : Nat) : List Nat → Option (Nat × Nat)
  | [] => none
  | base :: rest =>
    if inRegion base size addr then some (0, addr - base)
    else (findRegion size addr rest).map (fun p => (p.1 + 1, p.2))

/-- The instance whose region holds the address, and the offset `addr - BASE` (R41). -/
def route (c : Config) (addr : Nat) : Option (Kind × Nat × Nat) :=
  match findRegion c.uart.regionSize addr (c.uart.wiring.map (·.base)) with
  | some p => some (.uart, p)
  | none => (findRegion c.spi.regionSize addr (c.spi.wiring.map (·.base))).map (fun p => (.spi, p))

/-- The request of `d.read(addr - BASE, n)` on the instance `d` that holds the address (R41). An address outside every
region belongs to no instance (log 16). -/
def readRequest (c : Config) (addr n : Nat) : Except Refusal Request :=
  match route c addr with
  | none => .error (.noDeviceAt addr)
  | some (k, inst, off) =>
    .ok { inst := inst, sel := packSel .rd (sizeOfBytes n) k (BitVec.ofNat 24 off), val := 0#32 }

/-- The request a bus access makes (R41): `d.read(addr - BASE, n)` for a load, `d.write(addr - BASE, v, n)` for a store.
An instruction fetch presented as a read is that read (D4); one presented as a fetch is refused (R55, log 15). -/
def busRequest (c : Config) (a : BusAccess) : Except Refusal Request :=
  match a with
  | .load addr n => readRequest c addr n
  | .store addr n value =>
    match route c addr with
    | none => .error (.noDeviceAt addr)
    | some (k, inst, off) =>
      .ok
        { inst := inst, sel := packSel .wr (sizeOfBytes n) k (BitVec.ofNat 24 off)
          val := BitVec.ofNat 32 (value % 2 ^ (8 * n)) }
  | .fetch .asRead addr n => readRequest c addr n
  | .fetch .asFetch addr _ => .error (.instructionFetch addr)

/-- The bus master issues an access: its operation joins the end of the pending ones (R50: in the order the agent
issues them). -/
def busIssue (a : BusAccess) (s : State) : Result :=
  match busRequest s.cfg a with
  | .error why => .refused why
  | .ok r => .next { s with ops := s.ops ++ [r] }

end Sys2Proof.Machine
end

