-- ==== Sys2Proof/Machine/Pseudo.lean ====
section
/-!
DEFINITION. The textual syntax of operations and the pseudo-operations (30_encoding.md rule R71).
-/

namespace Sys2Proof

/-- The pseudo-operations of R71. `w1c` is one constructor per register it may name; the flags of `flushTx` and
`flushRx` are the MEN bit the program wants `enabled` to take. -/
inductive Pseudo where
  | softresetUart (inst : Nat)
  | softresetSpi (inst : Nat)
  | w1cUartStat (inst : Nat) (mask : Word)
  | w1cUartFifo (inst : Nat) (mask : Word)
  | w1cSpiSr (inst : Nat) (mask : Word)
  | men (inst : Nat)
  | flushTx (inst : Nat) (keep : Bool)
  | flushRx (inst : Nat) (keep : Bool)
  deriving DecidableEq, Repr

/-- The expansion of a pseudo-operation (R71). -/
def Pseudo.expand : Pseudo → Instr
  | .softresetUart inst => .uartWrGlobal inst .b4 0x00000001#32
  | .softresetSpi inst => .spiWrCr inst .b4 0x00000002#32
  | .w1cUartStat inst mask => .uartWrStat inst .b4 mask
  | .w1cUartFifo inst mask => .uartWrFifo inst .b4 mask
  | .w1cSpiSr inst mask => .spiWrSr inst .b4 mask
  | .men inst => .spiWrCr inst .b4 0x00000001#32
  | .flushTx inst keep => .spiWrCr inst .b4 (0x00000100#32 ||| b2w keep)
  | .flushRx inst keep => .spiWrCr inst .b4 (0x00000200#32 ||| b2w keep)

/-- The register names of R63. -/
def uartNames : List (Nat × String) :=
  [(0x00, "VERID"), (0x04, "PARAM"), (0x08, "GLOBAL"), (0x0C, "PINCFG"), (0x10, "BAUD"),
    (0x14, "STAT"), (0x18, "CTRL"), (0x1C, "DATA"), (0x20, "MATCH"), (0x24, "MODIR"),
    (0x28, "FIFO"), (0x2C, "WATER"), (0x30, "DATARO"), (0x40, "MCR"), (0x44, "MSR"),
    (0x48, "REIR"), (0x4C, "TEIR"), (0x50, "HDCR"), (0x58, "TOCR"), (0x5C, "TOSR")]

/-- The register names of R64 that R21 gives a fixed offset. -/
def spiNames : List (Nat × String) :=
  [(0x00, "VERID"), (0x04, "PARAM"), (0x10, "CR"), (0x14, "SR"), (0x18, "IER"),
    (0x1C, "DER"), (0x20, "CFGR0"), (0x24, "CFGR1"), (0x30, "DMR0"), (0x34, "DMR1"),
    (0x40, "CCR"), (0x44, "CCR1"), (0x58, "FCR"), (0x5C, "FSR"), (0x60, "TCR"),
    (0x64, "TDR"), (0x70, "RSR"), (0x74, "RDR")]

/-- A number in hexadecimal with `0x` (R71). -/
def hexText (v : Nat) : String := "0x" ++ String.ofList ((Nat.toDigits 16 v).map Char.toUpper)

/-- The name of a register of an instance, or its numeric offset (R71). -/
def regText (c : Config) (k : Kind) (off : Off) : String :=
  let listed :=
    match k with
    | .uart => uartNames.lookup off.toNat
    | .spi => if off = c.spi.rdrorOffset then some "RDROR" else spiNames.lookup off.toNat
  listed.getD (hexText off.toNat)

/-- The size suffix (R71). R71 gives none for a size other than 1, 2 and 4. -/
def sizeText : Option Size → String
  | some .b1 => ".b"
  | some .b2 => ".h"
  | some .b4 => ".w"
  | none => ".?"

/-- An instance name such as `uart0` or `spi0` (R71). -/
def devText (k : Kind) (inst : Nat) : String :=
  (match k with
    | .uart => "uart"
    | .spi => "spi") ++ Nat.repr inst

/-- An operation in the syntax of R71. -/
def Instr.text (c : Config) (i : Instr) : String :=
  let d := i.descriptor c
  let dev := devText d.kind d.inst
  match d.cls with
  | .rd => "rd" ++ sizeText d.size ++ " " ++ dev ++ ", " ++ regText c d.kind d.off
  | .wr => "wr" ++ sizeText d.size ++ " " ++ dev ++ ", " ++ regText c d.kind d.off ++ ", " ++ hexText d.val.toNat
  | .evt =>
    if d.off = 0#24 then "por " ++ dev
    else if d.off = 1#24 then "rx " ++ dev ++ ", " ++ hexText d.val.toNat
    else "canacc " ++ dev

end Sys2Proof
end

