-- ==== Sys2Proof/Machine/Ring.lean ====
section
/-!
DEFINITION. The circular buffer of 10_state.md rule R31 with its primitives as 40_common.md rules R90 to R93 write
them: array, head, tail, count. State holds a FIFO as the list of its elements (R94); this is the form that list stands
for.
-/

namespace Sys2Proof.Machine

/-- A FIFO as a circular buffer of `n`-bit elements (R31). -/
structure Ring (n : Nat) where
  buf : List (BitVec n)
  head : Nat
  tail : Nat
  count : Nat
  deriving DecidableEq, Repr

/-- The invariants of R31 for capacity `cap`. -/
abbrev Ring.wf {n : Nat} (cap : Nat) (f : Ring n) : Prop :=
  1 ≤ cap ∧ f.buf.length = cap ∧ f.head < cap ∧ f.count ≤ cap ∧ f.tail = (f.head + f.count) % cap

/-- The elements held, oldest first: `f.buf[(f.head + k) mod f.cap]` for `k` below `f.count` (R31). -/
def Ring.held {n : Nat} (cap : Nat) (f : Ring n) : List (BitVec n) :=
  (List.range f.count).map (fun k => f.buf.getD ((f.head + k) % cap) 0)

/-- `fifo_push` (R90). -/
def Ring.push {n : Nat} (cap : Nat) (f : Ring n) (e : BitVec n) : Bool × Ring n :=
  if f.count = cap then (false, f)
  else (true, { f with buf := f.buf.set f.tail e, tail := (f.tail + 1) % cap, count := f.count + 1 })

/-- `fifo_pop` (R91). -/
def Ring.pop {n : Nat} (cap : Nat) (f : Ring n) : Bool × BitVec n × Ring n :=
  if f.count = 0 then (false, 0, f)
  else (true, f.buf.getD f.head 0, { f with head := (f.head + 1) % cap, count := f.count - 1 })

/-- `fifo_peek` (R92). -/
def Ring.peek {n : Nat} (f : Ring n) : Bool × BitVec n :=
  if f.count = 0 then (false, 0) else (true, f.buf.getD f.head 0)

/-- `fifo_clear` (R93): the slots are left as they are. -/
def Ring.clear {n : Nat} (f : Ring n) : Ring n := { f with head := 0, tail := 0, count := 0 }

/-- A push or a pop. -/
inductive RingOp (n : Nat) where
  | push (e : BitVec n)
  | pop
  deriving DecidableEq, Repr

/-- A sequence of pushes and pops, the results dropped (R94). -/
def Ring.runAll {n : Nat} (cap : Nat) (f : Ring n) (ops : List (RingOp n)) : Ring n :=
  ops.foldl
    (fun g o =>
      match o with
      | .push e => (g.push cap e).2
      | .pop => (g.pop cap).2.2)
    f

/-- One push after the other (R94). -/
def Ring.pushAll {n : Nat} (cap : Nat) (f : Ring n) (es : List (BitVec n)) : Ring n := f.runAll cap (es.map .push)

/-- The elements that `k` pops return, in order (R94). -/
def Ring.popAll {n : Nat} (cap : Nat) (f : Ring n) : Nat → List (BitVec n)
  | 0 => []
  | k + 1 => (f.pop cap).2.1 :: (f.pop cap).2.2.popAll cap k

end Sys2Proof.Machine
end

