-- ==== Sys2Proof/Safety.lean ====
section
/-!
DEFINITION. What a safe state and a safe run are: the invariants of reachable states (10_state.md rule R36, with R31
and R1), reachability from the power-on reset under every order of operations (R49, R50), sequences of operations, and
the terms the statements use for "nothing else changes".
-/

namespace Sys2Proof.Machine

/-- What R36 says of a UART instance in every reachable state: items 1, 2, 3, 5, and the FIFO bound of R31. -/
abbrev Uart.Inv (c : Config) (u : Uart) : Prop :=
  u.tx = [] ∧ u.rx.length ≤ c.uart.rxCap
    ∧ u.reg .global &&& 0x00000001#32 = 0#32
    ∧ u.reg .stat &&& 0xFF17FFFF#32 = 0#32
    ∧ (u.reg .stat).getLsbD 23 = true
    ∧ (u.reg .fifo).getLsbD 17 = false
    ∧ u.reg .data &&& 0xFFFFFF00#32 = 0#32

/-- What R36 says of an SPI instance in every reachable state: items 2 and 4, and the FIFO bounds of R31. -/
abbrev Spi.Inv (c : Config) (p : Spi) : Prop :=
  p.tx.length ≤ c.spi.txCap ∧ p.rx.length ≤ c.spi.rxCap
    ∧ p.reg .cr &&& 0x00000302#32 = 0#32
    ∧ p.reg .sr &&& ~~~0x00001F00#32 = 0#32

/-- The invariant of the machine: an admissible configuration (R4), the instances it counts (R1), each with its own
invariant (R36). -/
abbrev State.Inv (s : State) : Prop :=
  s.cfg.wf = true
    ∧ s.uarts.length = s.cfg.count .uart ∧ s.spis.length = s.cfg.count .spi
    ∧ (∀ u ∈ s.uarts, u.Inv s.cfg) ∧ (∀ p ∈ s.spis, p.Inv s.cfg)

/-- The states of the block of configuration `c` that agents can bring about: from the power-on reset, by steps, with
the agents issuing operations in any number and order (R2, R49). -/
inductive Reachable (c : Config) : State → Prop where
  | reset : Reachable c (State.resetOf c)
  | issue {s : State} (ops : List Request) : Reachable c s → Reachable c { s with ops := ops }
  | step {s t : State} : Reachable c s → Sys2Proof.Machine.step s = .next t → Reachable c t

/-- A safe run never faults and never refuses (R5): from this state `n` steps all answer a next state. -/
def runsSafely (n : Nat) (s : State) : Prop := ∃ t, Sys2Proof.core.run n s = .next t

/-- The operations performed one after the other (R50), with the reply of each; `none` when one is refused. -/
def performAll : List Instr → State → Option (State × List Reply)
  | [], s => some (s, [])
  | i :: rest, s =>
    match exec i s with
    | .next t => (performAll rest t).map (fun p => (p.1, t.reply :: p.2))
    | _ => none

/-- `t` differs from `s` at most in UART instance `inst`, whose state is now `u`, and in the reply (R51, R35). -/
def OnlyUart (inst : Nat) (u : Uart) (s t : State) : Prop :=
  t.cfg = s.cfg ∧ t.ops = s.ops ∧ t.spis = s.spis ∧ t.uarts.length = s.uarts.length
    ∧ t.uarts[inst]? = some u ∧ ∀ j, j ≠ inst → t.uarts[j]? = s.uarts[j]?

/-- `t` differs from `s` at most in SPI instance `inst`, whose state is now `p`, and in the reply (R51, R35). -/
def OnlySpi (inst : Nat) (p : Spi) (s t : State) : Prop :=
  t.cfg = s.cfg ∧ t.ops = s.ops ∧ t.uarts = s.uarts ∧ t.spis.length = s.spis.length
    ∧ t.spis[inst]? = some p ∧ ∀ j, j ≠ inst → t.spis[j]? = s.spis[j]?

/-- `v` is `u` but for the stored words of the registers in `rs`. -/
def Uart.SameBut (rs : List UartReg) (u v : Uart) : Prop :=
  v.tx = u.tx ∧ v.rx = u.rx ∧ v.out = u.out ∧ ∀ r, r ∉ rs → v.reg r = u.reg r

/-- `q` is `p` but for the stored words of the registers in `rs`. -/
def Spi.SameBut (rs : List SpiReg) (p q : Spi) : Prop :=
  q.tx = p.tx ∧ q.rx = p.rx ∧ q.enabled = p.enabled ∧ q.master = p.master ∧ q.sent = p.sent
    ∧ ∀ r, r ∉ rs → q.reg r = p.reg r

/-- `w` is `v` in every bit but those of `is`. -/
def SameBits (is : List Nat) (v w : Word) : Prop := ∀ i, i < 32 → i ∉ is → w.getLsbD i = v.getLsbD i

/-- A UART with the registers blanked that nothing reads back into its behaviour: GLOBAL (R14) and the eleven plain ones
(R18). -/
def Uart.eraseInert (u : Uart) : Uart :=
  { u with
    regs :=
      { u.regs with
        global := 0, pincfg := 0, baud := 0, matchReg := 0, modir := 0, mcr := 0, msr := 0, reir := 0, teir := 0
        hdcr := 0, tocr := 0, tosr := 0 } }

/-- An SPI with the registers blanked that nothing reads back into its behaviour (R25, R29), and `master`, which "is not
observable through any operation" (R25). -/
def Spi.eraseInert (p : Spi) : Spi :=
  { p with
    regs := { p.regs with der := 0, cfgr0 := 0, cfgr1 := 0, dmr0 := 0, dmr1 := 0, ccr := 0, ccr1 := 0, tcr := 0 }
    master := false }

/-- A state with the inert registers of every instance blanked, and the last reply. -/
def State.eraseInert (s : State) : State :=
  { s with
    uarts := s.uarts.map Uart.eraseInert
    spis := s.spis.map Spi.eraseInert
    reply := { value := none, error := none } }

/-- The operation reads one of the registers that `eraseInert` blanks. -/
def readsInert (c : Config) (i : Instr) : Bool :=
  let d := i.descriptor c
  d.cls == .rd &&
    match d.kind with
    | .uart => [0x08, 0x0C, 0x10, 0x20, 0x24, 0x40, 0x44, 0x48, 0x4C, 0x50, 0x58, 0x5C].contains d.off.toNat
    | .spi => [0x1C, 0x20, 0x24, 0x30, 0x34, 0x40, 0x44, 0x60].contains d.off.toNat

end Sys2Proof.Machine
end

