-- ==== Sys2Proof/Certificates/Slice0/Obligations.lean ====
section
/-!
DEFINITION. The statements for the provers. Each docstring says what the statement says and which rules it rests on; a
clause that rests on a choice of the model names its log entry.
-/

open Sys2Proof Sys2Proof.Machine

/-- If the first pending request decodes to an operation i, step is exec of i at the state without that request; if
it is no operation of the block, step refuses and names why; with nothing pending (log 5: the model holds the
operations issued by the agents in a list) step answers the state unchanged. (20_memory.md R49, R50, R2;
30_encoding.md R62). -/
def Obligations.StepRunsTheDecodedOperation : Prop :=
  (∀ (s : State) (r : Request) (rest : List Request) (i : Instr), s.ops = r :: rest → decode s.cfg r = .ok i →
    step s = exec i { s with ops := rest }) ∧
  (∀ (s : State) (r : Request) (rest : List Request) (why : Reject), s.ops = r :: rest →
    decode s.cfg r = .error why → step s = .refused (.notAnOperation why)) ∧
  (∀ s : State, s.ops = [] → step s = .next s)

/-- The example descriptors of R61 and one word of every format decode, under the reference configuration, to the
operation the spec gives for them. (30_encoding.md R61, R63, R64, R65). -/
def Obligations.WrittenOutWordsDecode : Prop :=
  decodeTableWord 32 0x20000014 = some (.uartRdStat 0 .b4) ∧
  decodeTableWord 64 0x000000416000001C = some (.uartWrData 0 .b4 0x41#32) ∧
  decodeTableWord 32 0x0000001C = some (.uartRdData 0 .b1) ∧
  decodeTableWord 64 0x000000AA61000064 = some (.spiWrTdr 0 .b4 0xAA#32) ∧
  decodeTableWord 64 0x0000006180000001 = some (.uartEvtRx 0 0x61#8) ∧
  decodeTableWord 32 0x81000000 = some (.spiEvtPor 0) ∧
  decodeTableWord 32 0x11000078 = some (.spiRdRdror 0 .b2) ∧
  decodeTableWord 32 0x20000034 = some (.uartRdUnknown 0 .b4 0x34#24) ∧
  decodeTableWord 32 0x30000018 = some (.uartRdInvalid 0 none 0x18#24) ∧
  decodeTableWord 32 0xC0000000 = none ∧ decodeTableWord 32 0x22000000 = none

/-- For every admissible configuration and every well-formed operation of every one of the ninety constructors, with
every operand value the encoding admits, decode of encode is the operation itself. (30_encoding.md R61 to R66). -/
def Obligations.DecodeOfEncodeIsTheOperation : Prop :=
  ∀ (c : Config) (i : Instr), c.wf = true → i.wellFormed c = true → decode c (encode c i) = .ok i

/-- Whatever request decodes, the operation is well formed, and encoding it again gives the same instance index and
the same word sel: every bit of sel is accounted for. Two parts of well-formed are the model's choices, not the
spec's: that the value of a 1 or 2 byte write fits its size holds for a val with higher bits set because the decoder
drops them (log 8), and that the instance exists because the decoder refuses an index without one (log 9).
(30_encoding.md R62, R66; 20_memory.md R42). -/
def Obligations.DecodedOperationsAreWellFormed : Prop :=
  ∀ (c : Config) (r : Request) (i : Instr), decode c r = .ok i →
    i.wellFormed c = true ∧ (encode c i).inst = r.inst ∧ (encode c i).sel = r.sel

/-- A request decodes to an operation if and only if its instance exists, kind is 0 or 1, and cls is RD, WR, or EVT
with lgsz 0, off[23:8] 0 and an event id defined for the kind. That an index names an existing instance is checked
by the decoder is the model's choice (log 9). (30_encoding.md R61, R62, R65; 00_scope.md R1). -/
def Obligations.DecoderRefusesExactlyNonOperations : Prop :=
  ∀ (c : Config) (r : Request),
    (∃ i, decode c r = .ok i) ↔
      ∃ k : Kind, r.sel.extractLsb' 24 4 = kindCode k ∧ r.inst < c.count k ∧
        (r.sel.extractLsb' 30 2 = 0#2 ∨ r.sel.extractLsb' 30 2 = 1#2 ∨
          (r.sel.extractLsb' 30 2 = 2#2 ∧ r.sel.extractLsb' 28 2 = 0#2 ∧ r.sel.extractLsb' 8 16 = 0#16 ∧
            (r.sel.extractLsb' 0 8 = 0#8 ∨
              (k = .uart ∧ (r.sel.extractLsb' 0 8 = 1#8 ∨ r.sel.extractLsb' 0 8 = 2#8)))))

/-- A decoded bus access is one of the four INVALID operations if and only if its size is not 1, 2 or 4, or its
offset is not aligned to the size, or it runs past the region; it is one of the four UNKNOWN operations if and only
if it is valid and its offset is no register offset of its kind. (30_encoding.md R62 steps 3 to 5; 20_memory.md
R42). -/
def Obligations.InvalidAccessesAreDecodedBeforeAnyRow : Prop :=
  ∀ (c : Config) (r : Request) (i : Instr), decode c r = .ok i → (i.descriptor c).cls ≠ .evt →
    ((i.descriptor c).form = .invalid ↔
      (r.sel.extractLsb' 28 2 = 3#2 ∨
        (r.sel.extractLsb' 0 24).toNat % 2 ^ (r.sel.extractLsb' 28 2).toNat ≠ 0 ∨
        c.regionSize (i.descriptor c).kind <
          (r.sel.extractLsb' 0 24).toNat + 2 ^ (r.sel.extractLsb' 28 2).toNat)) ∧
    ((i.descriptor c).form = .unknown ↔
      (i.descriptor c).form ≠ .invalid ∧ (r.sel.extractLsb' 0 24).toNat ∉
        (match (i.descriptor c).kind with
          | .uart => uartOffsets
          | .spi => spiOffsets c))

/-- For every state with the invariant (admissible configuration, the instances it counts; each UART: TX FIFO empty,
RX FIFO within capacity, GLOBAL.RST 0, STAT inside 0x00E80000 with TDRE set, TXOF clear, DATA a byte; each SPI: both
FIFOs within capacity, CR action bits 0, stored SR inside 0x1F00) a step that answers a next state answers one with
the invariant. (10_state.md R36, R31, R14, R15, R22, R23; 00_scope.md R1, R4). -/
def Obligations.EveryStepKeepsTheInvariant : Prop :=
  ∀ s t : State, s.Inv → step s = .next t → t.Inv

/-- For every admissible configuration the block right after construction has the invariant; the reference
configuration is admissible, so State.reset has it. (10_state.md R33, R34, R36). -/
def Obligations.ResetHasTheInvariant : Prop :=
  (∀ c : Config, c.wf = true → (State.resetOf c).Inv) ∧ Config.ref.wf = true ∧ State.reset.Inv

/-- From the power-on reset of any admissible configuration, whatever operations the agents issue and in whatever
order, every state reached has the invariant of R36. (10_state.md R36; 20_memory.md R49, R50). -/
def Obligations.ReachableStatesHaveTheInvariant : Prop :=
  ∀ (c : Config) (s : State), c.wf = true → Reachable c s → s.Inv ∧ s.cfg = c

/-- In every state with the invariant every well-formed operation, of each of the ninety constructors, answers a
next state; that state has the invariant, the same configuration and pending operations, and a result exactly when
the operation is a bus read or can_accept. (00_scope.md R5; 60_exceptions.md R243, R248). -/
def Obligations.EveryOperationCompletes : Prop :=
  ∀ (s : State) (i : Instr), s.Inv → i.wellFormed s.cfg = true →
    ∃ t, exec i s = .next t ∧ t.Inv ∧ t.cfg = s.cfg ∧ t.ops = s.ops ∧
      (t.reply.value.isSome = true ↔
        ((i.descriptor s.cfg).cls = .rd ∨ i = .uartEvtCanacc (i.descriptor s.cfg).inst))

/-- Whenever an operation answers a next state, the configuration and the pending operations are as before, no
instance appears or disappears, and every instance other than the one it names is unchanged, of either kind.
(00_scope.md R1, R2; 20_memory.md R51; 10_state.md R35). -/
def Obligations.OperationsTouchOneInstanceOnly : Prop :=
  ∀ (i : Instr) (s t : State), exec i s = .next t →
    t.cfg = s.cfg ∧ t.ops = s.ops ∧ t.uarts.length = s.uarts.length ∧ t.spis.length = s.spis.length ∧
    (∀ j, ((i.descriptor s.cfg).kind = .uart → (i.descriptor s.cfg).inst ≠ j) → t.uarts[j]? = s.uarts[j]?) ∧
    (∀ j, ((i.descriptor s.cfg).kind = .spi → (i.descriptor s.cfg).inst ≠ j) → t.spis[j]? = s.spis[j]?)

/-- If two operations name different instances, performing them in either order answers next states with the same
instances, and each operation hands back the same reply in both orders. For two SPI instances with external peers
this rests on the model's choice that each peer answers from the words sent to it alone (log 3), since R51 excepts
the environment. (20_memory.md R51; 00_scope.md R1). -/
def Obligations.OperationsOnDifferentInstancesCommute : Prop :=
  ∀ (i j : Instr) (s a b : State),
    ((i.descriptor s.cfg).kind ≠ (j.descriptor s.cfg).kind ∨ (i.descriptor s.cfg).inst ≠ (j.descriptor s.cfg).inst) →
    exec i s = .next a → exec j a = .next b →
    ∃ a' b', exec j s = .next a' ∧ exec i a' = .next b' ∧ b'.uarts = b.uarts ∧ b'.spis = b.spis ∧
      b'.cfg = b.cfg ∧ b'.ops = b.ops ∧ a'.reply = b.reply ∧ b'.reply = a.reply

/-- A bus read other than UART.RD.DATA and SPI.RD.RDR that answers a next state changes the reply only, and
performed again at once answers that same state, reply included. (20_memory.md R47; 95_test_vectors.md T4). -/
def Obligations.OnlyDataAndRdrReadsHaveSideEffects : Prop :=
  ∀ (i : Instr) (s t : State), (i.descriptor s.cfg).cls = .rd → (∀ n z, i ≠ .uartRdData n z) →
    (∀ n z, i ≠ .spiRdRdr n z) → exec i s = .next t →
    t = { s with reply := t.reply } ∧ exec i t = .next t

/-- If the reply of an operation carries a guest error, the state is unchanged but for the reply; the result is 0
for a read and there is none for a write; and the operation is not an event. (40_common.md R96; 60_exceptions.md
R240, R247). -/
def Obligations.GuestErrorsChangeNothing : Prop :=
  ∀ (i : Instr) (s t : State) (k : GuestError), exec i s = .next t → t.reply.error = some k →
    t = { s with reply := t.reply } ∧
    (((i.descriptor s.cfg).cls = .rd ∧ t.reply.value = some 0#32) ∨
      ((i.descriptor s.cfg).cls = .wr ∧ t.reply.value = none))

/-- UART.RD.INVALID, UART.WR.INVALID, SPI.RD.INVALID and SPI.WR.INVALID on an existing instance leave everything but
the reply as it was; a read answers 0, a write nothing; the kind is BadSize for a size other than 1, 2, 4, else
Misaligned for an offset not aligned to the size, else OutOfRange. (20_memory.md R43; 60_exceptions.md R240). -/
def Obligations.InvalidAccessesAreGuestErrors : Prop :=
  ∀ (s : State) (n : Nat) (size : Option Size) (off : Off) (val : Word),
    let kind : GuestError :=
      match size with
      | none => .badSize
      | some z => if off.toNat % z.bytes ≠ 0 then .misaligned else .outOfRange
    (∀ u, s.uarts[n]? = some u →
      exec (.uartRdInvalid n size off) s = .next { s with reply := { value := some 0#32, error := some kind } } ∧
      exec (.uartWrInvalid n size off val) s = .next { s with reply := { value := none, error := some kind } }) ∧
    (∀ p, s.spis[n]? = some p →
      exec (.spiRdInvalid n size off) s = .next { s with reply := { value := some 0#32, error := some kind } } ∧
      exec (.spiWrInvalid n size off val) s = .next { s with reply := { value := none, error := some kind } })

/-- UART.RD.UNKNOWN, UART.WR.UNKNOWN, SPI.RD.UNKNOWN and SPI.WR.UNKNOWN on an existing instance leave everything but
the reply as it was; a read answers 0, a write nothing; the kind is UnknownOffset. (30_encoding.md R66;
41_uart_read.md R130; 42_uart_write.md R160; 44_spi_read.md R199; 45_spi_write.md R229). -/
def Obligations.UnknownOffsetsAreGuestErrors : Prop :=
  ∀ (s : State) (n : Nat) (z : Size) (off : Off) (val : Word),
    (∀ u, s.uarts[n]? = some u →
      exec (.uartRdUnknown n z off) s
        = .next { s with reply := { value := some 0#32, error := some .unknownOffset } } ∧
      exec (.uartWrUnknown n z off val) s
        = .next { s with reply := { value := none, error := some .unknownOffset } }) ∧
    (∀ p, s.spis[n]? = some p →
      exec (.spiRdUnknown n z off) s
        = .next { s with reply := { value := some 0#32, error := some .unknownOffset } } ∧
      exec (.spiWrUnknown n z off val) s
        = .next { s with reply := { value := none, error := some .unknownOffset } })

/-- A write to UART VERID, PARAM or DATARO, or to SPI VERID, PARAM, FSR, RSR, RDR or RDROR, changes nothing but the
reply, which carries WriteToReadOnly and no result; a read of SPI TDR changes nothing but the reply, which carries
ReadOfWriteOnly and the result 0; no operation on a UART reports ReadOfWriteOnly. (R67; R99; R100). -/
def Obligations.AccessClassViolationsAreGuestErrors : Prop :=
  ∀ (s : State) (n : Nat) (z : Size) (val : Word),
    (∀ u, s.uarts[n]? = some u →
      ∀ i ∈ [Instr.uartWrVerid n z val, Instr.uartWrParam n z val, Instr.uartWrDataro n z val],
        exec i s = .next { s with reply := { value := none, error := some .writeToReadOnly } }) ∧
    (∀ p, s.spis[n]? = some p →
      (∀ i ∈ [Instr.spiWrVerid n z val, Instr.spiWrParam n z val, Instr.spiWrFsr n z val,
             Instr.spiWrRsr n z val, Instr.spiWrRdr n z val, Instr.spiWrRdror n z val],
        exec i s = .next { s with reply := { value := none, error := some .writeToReadOnly } }) ∧
      exec (.spiRdTdr n z) s = .next { s with reply := { value := some 0#32, error := some .readOfWriteOnly } }) ∧
    (∀ i t, (i.descriptor s.cfg).kind = .uart → exec i s = .next t → t.reply.error ≠ some .readOfWriteOnly)

/-- If the state has no instance of the kind and index an operation names, the operation is refused as
noSuchInstance with that kind and index, whichever operation it is. The spec gives no instance to act on; that the
model refuses is its own choice (log 9). (00_scope.md R1; notes/assumptions/9.md). -/
def Obligations.MissingInstancesAreRefusedByName : Prop :=
  ∀ (i : Instr) (s : State),
    ((i.descriptor s.cfg).kind = .uart → s.uarts[(i.descriptor s.cfg).inst]? = none →
      exec i s = .refused (.noSuchInstance .uart (i.descriptor s.cfg).inst)) ∧
    ((i.descriptor s.cfg).kind = .spi → s.spis[(i.descriptor s.cfg).inst]? = none →
      exec i s = .refused (.noSuchInstance .spi (i.descriptor s.cfg).inst))

/-- Bit j of a truncated read result is bit j of the register when j is below 8*size and 0 above, and the word of a
narrow write is the value's low 8*size bits with zeros above. (20_memory.md R45; 40_common.md R104). -/
def Obligations.NarrowAccessesUseTheLowBits : Prop :=
  ∀ (z : Size) (w : Word) (j : Nat),
    (truncSize z w).getLsbD j = (w.getLsbD j && decide (j < 8 * z.bytes)) ∧
    (zextSize z w).getLsbD j = (w.getLsbD j && decide (j < 8 * z.bytes))

/-- UART.RD of GLOBAL, PINCFG, BAUD, STAT, CTRL, MATCH, MODIR, MCR, MSR, REIR, TEIR, HDCR, TOCR, TOSR and SPI.RD of
CR, IER, DER, CFGR0, CFGR1, DMR0, DMR1, CCR, CCR1, FCR, TCR, at every size, answer the stored word truncated to the
size, with no guest error and no other change of state. (R97). -/
def Obligations.PlainReadsReturnTheStoredWord : Prop :=
  ∀ (s : State) (n : Nat) (z : Size),
    (∀ u, s.uarts[n]? = some u →
      ∀ x ∈ [(Instr.uartRdGlobal n z, UartReg.global), (Instr.uartRdPincfg n z, UartReg.pincfg),
           (Instr.uartRdBaud n z, UartReg.baud), (Instr.uartRdStat n z, UartReg.stat),
           (Instr.uartRdCtrl n z, UartReg.ctrl), (Instr.uartRdMatch n z, UartReg.matchReg),
           (Instr.uartRdModir n z, UartReg.modir), (Instr.uartRdMcr n z, UartReg.mcr),
           (Instr.uartRdMsr n z, UartReg.msr), (Instr.uartRdReir n z, UartReg.reir),
           (Instr.uartRdTeir n z, UartReg.teir), (Instr.uartRdHdcr n z, UartReg.hdcr),
           (Instr.uartRdTocr n z, UartReg.tocr), (Instr.uartRdTosr n z, UartReg.tosr)],
        exec x.1 s = .next { s with reply := { value := some (truncSize z (u.reg x.2)), error := none } }) ∧
    (∀ p, s.spis[n]? = some p →
      ∀ x ∈ [(Instr.spiRdCr n z, SpiReg.cr), (Instr.spiRdIer n z, SpiReg.ier),
           (Instr.spiRdDer n z, SpiReg.der), (Instr.spiRdCfgr0 n z, SpiReg.cfgr0),
           (Instr.spiRdCfgr1 n z, SpiReg.cfgr1), (Instr.spiRdDmr0 n z, SpiReg.dmr0),
           (Instr.spiRdDmr1 n z, SpiReg.dmr1), (Instr.spiRdCcr n z, SpiReg.ccr),
           (Instr.spiRdCcr1 n z, SpiReg.ccr1), (Instr.spiRdFcr n z, SpiReg.fcr),
           (Instr.spiRdTcr n z, SpiReg.tcr)],
        exec x.1 s = .next { s with reply := { value := some (truncSize z (p.reg x.2)), error := none } })

/-- UART.RD.VERID and PARAM and SPI.RD.VERID and PARAM answer the configuration's constants, UART.RD.DATARO answers
0, each truncated to the size, with nothing else changed: the RX FIFO is not looked at by DATARO. (41_uart_read.md
R110, R111, R122; 44_spi_read.md R180, R181; 10_state.md R18, R29). -/
def Obligations.IdentificationReadsReturnConstants : Prop :=
  ∀ (s : State) (n : Nat) (z : Size),
    (∀ u, s.uarts[n]? = some u →
      exec (.uartRdVerid n z) s
        = .next { s with reply := { value := some (truncSize z s.cfg.uart.verid), error := none } } ∧
      exec (.uartRdParam n z) s
        = .next { s with reply := { value := some (truncSize z s.cfg.uart.param), error := none } } ∧
      exec (.uartRdDataro n z) s = .next { s with reply := { value := some 0#32, error := none } }) ∧
    (∀ p, s.spis[n]? = some p →
      exec (.spiRdVerid n z) s
        = .next { s with reply := { value := some (truncSize z s.cfg.spi.verid), error := none } } ∧
      exec (.spiRdParam n z) s
        = .next { s with reply := { value := some (truncSize z s.cfg.spi.param), error := none } })

/-- UART.RD.FIFO answers a word whose bit 22 says the RX FIFO is empty, bit 23 that the TX FIFO is empty, and whose
other bits are the stored ones; UART.RD.WATER answers, while the TX occupancy fits its field, a word with TXWATER
and RXWATER stored, bits 15:8 the TX occupancy and bits 31:24 the RX occupancy; both truncated to the size, with
nothing else changed. (41_uart_read.md R120, R121; 40_common.md R101, R103; 10_state.md R16, R17). -/
def Obligations.UartStatusReadsAreLive : Prop :=
  ∀ (s : State) (n : Nat) (z : Size) (u : Uart), s.uarts[n]? = some u →
    (∃ w : Word, exec (.uartRdFifo n z) s = .next { s with reply := { value := some (truncSize z w), error := none } } ∧
      ∀ j, j < 32 → w.getLsbD j =
        if j = 22 then decide (u.rx = []) else if j = 23 then decide (u.tx = []) else (u.reg .fifo).getLsbD j) ∧
    (u.tx.length ≤ 255 →
      ∃ w : Word,
        exec (.uartRdWater n z) s = .next { s with reply := { value := some (truncSize z w), error := none } } ∧
        w.extractLsb' 0 8 = (u.reg .water).extractLsb' 0 8 ∧ w.extractLsb' 8 8 = BitVec.ofNat 8 u.tx.length ∧
        w.extractLsb' 16 8 = (u.reg .water).extractLsb' 16 8 ∧ w.extractLsb' 24 8 = BitVec.ofNat 8 u.rx.length)

/-- With bytes in the RX FIFO, UART.RD.DATA answers the oldest, zero-extended and truncated to the size; the RX FIFO
loses it, DATA holds it, STAT.RDRF becomes (new occupancy > RXWATER); every other bit of STAT, every other register,
the TX FIFO, the output stream and every other instance are unchanged. (41_uart_read.md R117; 20_memory.md R45). -/
def Obligations.UartDataReadPopsTheOldestByte : Prop :=
  ∀ (s : State) (n : Nat) (z : Size) (u : Uart) (b : Byte) (rest : List Byte),
    s.uarts[n]? = some u → u.rx = b :: rest →
    ∃ t v, exec (.uartRdData n z) s = .next t ∧ OnlyUart n v s t ∧
      t.reply = { value := some (truncSize z (b.setWidth 32)), error := none } ∧
      v.rx = rest ∧ v.tx = u.tx ∧ v.out = u.out ∧ v.reg .data = b.setWidth 32 ∧
      (v.reg .stat).getLsbD 21 = decide (((u.reg .water).extractLsb' 16 8).toNat < rest.length) ∧
      SameBits [21] (u.reg .stat) (v.reg .stat) ∧ ∀ r, r ≠ .data → r ≠ .stat → v.reg r = u.reg r

/-- With the RX FIFO empty, UART.RD.DATA answers 0 without a guest error; DATA becomes 0, FIFO.RXUF is set and
STAT.RDRF cleared; every other bit of FIFO and STAT, every other register, both FIFOs, the output stream and every
other instance are unchanged. (41_uart_read.md R117; 60_exceptions.md R241). -/
def Obligations.UartDataReadUnderflowSetsRxuf : Prop :=
  ∀ (s : State) (n : Nat) (z : Size) (u : Uart), s.uarts[n]? = some u → u.rx = [] →
    ∃ t v, exec (.uartRdData n z) s = .next t ∧ OnlyUart n v s t ∧
      t.reply = { value := some 0#32, error := none } ∧
      v.rx = [] ∧ v.tx = u.tx ∧ v.out = u.out ∧ v.reg .data = 0#32 ∧
      (v.reg .fifo).getLsbD 16 = true ∧ SameBits [16] (u.reg .fifo) (v.reg .fifo) ∧
      (v.reg .stat).getLsbD 21 = false ∧ SameBits [21] (u.reg .stat) (v.reg .stat) ∧
      ∀ r, r ≠ .data → r ≠ .stat → r ≠ .fifo → v.reg r = u.reg r

/-- SPI.RD.SR answers bit 0 (TX occupancy <= FCR[15:0]), bit 1 (RX occupancy > FCR[31:16]), the sticky bits 12:8,
and 0 elsewhere; while the TX occupancy fits its field SPI.RD.FSR answers it in the low half-word and the RX
occupancy in the high one; SPI.RD.RSR answers 2 when the RX FIFO is empty and 0 otherwise; each truncated to the
size, with nothing else changed. (44_spi_read.md R183, R193, R196; 40_common.md R102; 10_state.md R23, R27, R28). -/
def Obligations.SpiStatusReadsAreLive : Prop :=
  ∀ (s : State) (n : Nat) (z : Size) (p : Spi), s.spis[n]? = some p →
    (∃ w : Word, exec (.spiRdSr n z) s = .next { s with reply := { value := some (truncSize z w), error := none } } ∧
      ∀ j, w.getLsbD j =
        if j = 0 then decide (p.tx.length ≤ ((p.reg .fcr).extractLsb' 0 16).toNat)
        else if j = 1 then decide (((p.reg .fcr).extractLsb' 16 16).toNat < p.rx.length)
        else decide (8 ≤ j ∧ j ≤ 12) && (p.reg .sr).getLsbD j) ∧
    (p.tx.length ≤ 65535 →
      ∃ w : Word, exec (.spiRdFsr n z) s = .next { s with reply := { value := some (truncSize z w), error := none } } ∧
        w.extractLsb' 0 16 = BitVec.ofNat 16 p.tx.length ∧ w.extractLsb' 16 16 = BitVec.ofNat 16 p.rx.length) ∧
    exec (.spiRdRsr n z) s =
      .next { s with reply := { value := some (if p.rx = [] then 2#32 else 0#32), error := none } }

/-- With words in the RX FIFO SPI.RD.RDR answers the oldest, truncated to the size, and removes it, every register
unchanged; with the FIFO empty it answers all ones truncated to the size and sets SR.REF, every other bit and
register unchanged; the TX FIFO, the hidden flags, the words exchanged and every other instance are unchanged.
(44_spi_read.md R197; 60_exceptions.md R241). -/
def Obligations.SpiRdrReadPopsOrUnderflows : Prop :=
  ∀ (s : State) (n : Nat) (z : Size) (p : Spi), s.spis[n]? = some p →
    (∀ (e : Word) (rest : List Word), p.rx = e :: rest →
      ∃ t q, exec (.spiRdRdr n z) s = .next t ∧ OnlySpi n q s t ∧
        t.reply = { value := some (truncSize z e), error := none } ∧ q = { p with rx := rest }) ∧
    (p.rx = [] →
      ∃ t q, exec (.spiRdRdr n z) s = .next t ∧ OnlySpi n q s t ∧
        t.reply = { value := some (truncSize z 0xFFFFFFFF#32), error := none } ∧
        Spi.SameBut [.sr] p q ∧ (q.reg .sr).getLsbD 12 = true ∧ SameBits [12] (p.reg .sr) (q.reg .sr))

/-- SPI.RD.RDROR answers the oldest received word truncated to the size, or all ones when there is none, with no
flag set and nothing changed but the reply. (44_spi_read.md R198). -/
def Obligations.SpiRdrorPeeksWithoutEffect : Prop :=
  ∀ (s : State) (n : Nat) (z : Size) (p : Spi), s.spis[n]? = some p →
    exec (.spiRdRdror n z) s =
      .next { s with reply := { value := some (truncSize z (p.rx.headD 0xFFFFFFFF#32)), error := none } }

/-- UART.WR of PINCFG, BAUD, MATCH, MODIR, WATER, MCR, MSR, REIR, TEIR, HDCR, TOCR, TOSR and SPI.WR of IER, DER,
CFGR0, DMR0, DMR1, CCR, CCR1, FCR, TCR store the zero-extended value; every other register, the flags, both FIFOs,
the hidden flags and every other instance are unchanged, with no result and no guest error. (R98). -/
def Obligations.PlainWritesStoreTheWholeWord : Prop :=
  ∀ (s : State) (n : Nat) (z : Size) (val : Word),
    (∀ u, s.uarts[n]? = some u →
      ∀ x ∈ [(Instr.uartWrPincfg n z val, UartReg.pincfg), (Instr.uartWrBaud n z val, UartReg.baud),
           (Instr.uartWrMatch n z val, UartReg.matchReg), (Instr.uartWrModir n z val, UartReg.modir),
           (Instr.uartWrWater n z val, UartReg.water), (Instr.uartWrMcr n z val, UartReg.mcr),
           (Instr.uartWrMsr n z val, UartReg.msr), (Instr.uartWrReir n z val, UartReg.reir),
           (Instr.uartWrTeir n z val, UartReg.teir), (Instr.uartWrHdcr n z val, UartReg.hdcr),
           (Instr.uartWrTocr n z val, UartReg.tocr), (Instr.uartWrTosr n z val, UartReg.tosr)],
        ∃ t v, exec x.1 s = .next t ∧ OnlyUart n v s t ∧ t.reply = { value := none, error := none } ∧
          v.reg x.2 = zextSize z val ∧ Uart.SameBut [x.2] u v) ∧
    (∀ p, s.spis[n]? = some p →
      ∀ x ∈ [(Instr.spiWrIer n z val, SpiReg.ier), (Instr.spiWrDer n z val, SpiReg.der),
           (Instr.spiWrCfgr0 n z val, SpiReg.cfgr0), (Instr.spiWrDmr0 n z val, SpiReg.dmr0),
           (Instr.spiWrDmr1 n z val, SpiReg.dmr1), (Instr.spiWrCcr n z val, SpiReg.ccr),
           (Instr.spiWrCcr1 n z val, SpiReg.ccr1), (Instr.spiWrFcr n z val, SpiReg.fcr),
           (Instr.spiWrTcr n z val, SpiReg.tcr)],
        ∃ t q, exec x.1 s = .next t ∧ OnlySpi n q s t ∧ t.reply = { value := none, error := none } ∧
          q.reg x.2 = zextSize z val ∧ Spi.SameBut [x.2] p q)

/-- UART.WR.GLOBAL of any size with bit 0 of the value set puts every stored register at its reset value and empties
both FIFOs, the output stream untouched; with bit 0 clear it stores the zero-extended value in GLOBAL and changes
nothing else. (42_uart_write.md R142, R161; 70_reset_and_hazards.md R261). -/
def Obligations.UartGlobalWriteResetsOrStores : Prop :=
  ∀ (s : State) (n : Nat) (z : Size) (val : Word) (u : Uart), s.uarts[n]? = some u →
    ∃ t v, exec (.uartWrGlobal n z val) s = .next t ∧ OnlyUart n v s t ∧
      t.reply = { value := none, error := none } ∧
      (val.getLsbD 0 = true →
        v.tx = [] ∧ v.rx = [] ∧ v.out = u.out ∧ ∀ r, v.reg r = s.cfg.uart.reset.get r) ∧
      (val.getLsbD 0 = false → v.reg .global = zextSize z val ∧ Uart.SameBut [.global] u v)

/-- UART.WR.STAT clears PF, FE, NF, OR (bits 16 to 19) where the value has a 1 and changes no other bit of STAT, no
other register, no FIFO and no other instance. (42_uart_write.md R145). -/
def Obligations.UartStatWriteClearsErrorFlags : Prop :=
  ∀ (s : State) (n : Nat) (z : Size) (val : Word) (u : Uart), s.uarts[n]? = some u →
    ∃ t v, exec (.uartWrStat n z val) s = .next t ∧ OnlyUart n v s t ∧
      t.reply = { value := none, error := none } ∧ Uart.SameBut [.stat] u v ∧
      ∀ j, (v.reg .stat).getLsbD j =
        ((u.reg .stat).getLsbD j && !(decide (16 ≤ j ∧ j ≤ 19) && (zextSize z val).getLsbD j))

/-- UART.WR.CTRL stores the zero-extended value; TDRE becomes 1 on a 0 to 1 edge of TE and is else unchanged; TC
becomes 0 on that edge, 1 on a 1 to 0 edge with the TX FIFO empty, and is else unchanged; every other bit of STAT,
every other register, both FIFOs, the output stream and every other instance are unchanged. (42_uart_write.md R146). -/
def Obligations.UartCtrlWriteActsOnTransmitEnableEdges : Prop :=
  ∀ (s : State) (n : Nat) (z : Size) (val : Word) (u : Uart), s.uarts[n]? = some u →
    ∃ t v, exec (.uartWrCtrl n z val) s = .next t ∧ OnlyUart n v s t ∧
      t.reply = { value := none, error := none } ∧ Uart.SameBut [.ctrl, .stat] u v ∧
      v.reg .ctrl = zextSize z val ∧ SameBits [22, 23] (u.reg .stat) (v.reg .stat) ∧
      (v.reg .stat).getLsbD 23 =
        (if (u.reg .ctrl).getLsbD 19 = false ∧ (zextSize z val).getLsbD 19 = true then true
          else (u.reg .stat).getLsbD 23) ∧
      (v.reg .stat).getLsbD 22 =
        (if (u.reg .ctrl).getLsbD 19 = false ∧ (zextSize z val).getLsbD 19 = true then false
          else if (u.reg .ctrl).getLsbD 19 = true ∧ (zextSize z val).getLsbD 19 = false ∧ u.tx = [] then true
          else (u.reg .stat).getLsbD 22)

/-- With TE set and room in the TX FIFO, UART.WR.DATA pushes the low byte of the value and sends the oldest byte,
which is that byte when the FIFO was empty; the rest stays queued, TDRE becomes (occupancy <= TXWATER) and TC (FIFO
empty); every other bit of STAT, every other register, the RX FIFO and every other instance are unchanged.
(42_uart_write.md R147; 43_uart_events.md R172). -/
def Obligations.UartDataWriteSendsOneByte : Prop :=
  ∀ (s : State) (n : Nat) (z : Size) (val : Word) (u : Uart) (b : Byte) (rest : List Byte),
    s.uarts[n]? = some u → (u.reg .ctrl).getLsbD 19 = true → u.tx.length < s.cfg.uart.txCap →
    u.tx ++ [val.setWidth 8] = b :: rest →
    ∃ t v, exec (.uartWrData n z val) s = .next t ∧ OnlyUart n v s t ∧
      t.reply = { value := none, error := none } ∧
      v.tx = rest ∧ v.out = u.out ++ [b] ∧ v.rx = u.rx ∧ (∀ r, r ≠ .stat → v.reg r = u.reg r) ∧
      SameBits [22, 23] (u.reg .stat) (v.reg .stat) ∧
      (v.reg .stat).getLsbD 23 = decide (rest.length ≤ ((u.reg .water).extractLsb' 0 8).toNat) ∧
      (v.reg .stat).getLsbD 22 = decide (rest = [])

/-- With TE clear UART.WR.DATA changes the reply only, with no guest error. With TE set and the TX FIFO full it
sends nothing and drops the byte: FIFO.TXOF is set, TDRE and TC are recomputed from the unchanged FIFO, and nothing
else changes. (42_uart_write.md R147; 60_exceptions.md R241; 70_reset_and_hazards.md R266). -/
def Obligations.UartDataWriteOverflowsOrIsIgnored : Prop :=
  ∀ (s : State) (n : Nat) (z : Size) (val : Word) (u : Uart), s.uarts[n]? = some u →
    ((u.reg .ctrl).getLsbD 19 = false →
      exec (.uartWrData n z val) s = .next { s with reply := { value := none, error := none } }) ∧
    ((u.reg .ctrl).getLsbD 19 = true → s.cfg.uart.txCap ≤ u.tx.length →
      ∃ t v, exec (.uartWrData n z val) s = .next t ∧ OnlyUart n v s t ∧
        t.reply = { value := none, error := none } ∧ Uart.SameBut [.fifo, .stat] u v ∧
        (v.reg .fifo).getLsbD 17 = true ∧ SameBits [17] (u.reg .fifo) (v.reg .fifo) ∧
        SameBits [22, 23] (u.reg .stat) (v.reg .stat) ∧
        (v.reg .stat).getLsbD 23 = decide (u.tx.length ≤ ((u.reg .water).extractLsb' 0 8).toNat) ∧
        (v.reg .stat).getLsbD 22 = decide (u.tx = []))

/-- UART.WR.FIFO keeps RXUF and TXOF (bits 16, 17) unless the value has a 1 there, stores every other bit of the
zero-extended value, and changes no other register, no FIFO and no other instance. (42_uart_write.md R150). -/
def Obligations.UartFifoWriteClearsStickyBits : Prop :=
  ∀ (s : State) (n : Nat) (z : Size) (val : Word) (u : Uart), s.uarts[n]? = some u →
    ∃ t v, exec (.uartWrFifo n z val) s = .next t ∧ OnlyUart n v s t ∧
      t.reply = { value := none, error := none } ∧ Uart.SameBut [.fifo] u v ∧
      ∀ j, (v.reg .fifo).getLsbD j =
        if j = 16 ∨ j = 17 then (u.reg .fifo).getLsbD j && !(zextSize z val).getLsbD j
        else (zextSize z val).getLsbD j

/-- UART.EVT.RX appends the byte to the RX FIFO when RE is set and there is room; sets STAT.OR when RE is set and
the FIFO is full; drops the byte and leaves OR alone when RE is clear; in every case STAT.RDRF becomes (occupancy >
RXWATER); every other bit of STAT, every other register, the TX FIFO, the output stream and every other instance are
unchanged. (43_uart_events.md R170). -/
def Obligations.UartReceiveStoresOrOverruns : Prop :=
  ∀ (s : State) (n : Nat) (b : Byte) (u : Uart), s.uarts[n]? = some u →
    ∃ t v, exec (.uartEvtRx n b) s = .next t ∧ OnlyUart n v s t ∧ t.reply = { value := none, error := none } ∧
      v.rx = (if (u.reg .ctrl).getLsbD 18 = true ∧ u.rx.length < s.cfg.uart.rxCap then u.rx ++ [b] else u.rx) ∧
      (v.reg .stat).getLsbD 19 =
        (if (u.reg .ctrl).getLsbD 18 = true ∧ s.cfg.uart.rxCap ≤ u.rx.length then true
          else (u.reg .stat).getLsbD 19) ∧
      (v.reg .stat).getLsbD 21 = decide (((u.reg .water).extractLsb' 16 8).toNat < v.rx.length) ∧
      SameBits [19, 21] (u.reg .stat) (v.reg .stat) ∧ v.tx = u.tx ∧ v.out = u.out ∧
      ∀ r, r ≠ .stat → v.reg r = u.reg r

/-- UART.EVT.CANACC is encoded with sel 0x80000002; it answers 1 when CTRL.RE is set and the RX occupancy is below
the capacity, else 0, and changes nothing but the reply, with no guest error. (R171). -/
def Obligations.CanAcceptAnswersReceiverAndRoom : Prop :=
  ∀ (s : State) (n : Nat) (u : Uart), s.uarts[n]? = some u →
    (encode s.cfg (.uartEvtCanacc n)).sel = 0x80000002#32 ∧
    exec (.uartEvtCanacc n) s =
      .next { s with
        reply :=
          { value := some (if (u.reg .ctrl).getLsbD 18 = true ∧ u.rx.length < s.cfg.uart.rxCap then 1#32 else 0#32)
            error := none } }

/-- UART.EVT.POR and SPI.EVT.POR put every stored register of the instance at its reset value and empty both FIFOs,
the SPI's enabled and master becoming false; what has been sent or exchanged stays on record and every other
instance is unchanged. (70_reset_and_hazards.md R260, R263; 10_state.md R33, R34). -/
def Obligations.PowerOnResetsRestoreEverything : Prop :=
  ∀ (s : State) (n : Nat),
    (∀ u, s.uarts[n]? = some u →
      ∃ t v, exec (.uartEvtPor n) s = .next t ∧ OnlyUart n v s t ∧ t.reply = { value := none, error := none } ∧
        v.tx = [] ∧ v.rx = [] ∧ v.out = u.out ∧ ∀ r, v.reg r = s.cfg.uart.reset.get r) ∧
    (∀ p, s.spis[n]? = some p →
      ∃ t q, exec (.spiEvtPor n) s = .next t ∧ OnlySpi n q s t ∧ t.reply = { value := none, error := none } ∧
        q.tx = [] ∧ q.rx = [] ∧ q.enabled = false ∧ q.master = false ∧ q.sent = p.sent ∧
        ∀ r, q.reg r = s.cfg.spi.reset.get r)

/-- Under every admissible configuration, after a UART reset STAT is 0x00C00000 and the line is low; after an SPI
soft reset or power-on SR reads 1, FSR 0, RSR 2, CR has MEN and its action bits 0, and the line is low. State.reset,
the power-on state under CFG_REF, has one instance of each kind, with STAT 0x00C00000, every other stored register
0, FIFO reading 0x00C00000, WATER reading 0, SR reading 1, the FIFOs empty, enabled and master false.
(42_uart_write.md R161; 45_spi_write.md R230; 10_state.md R33, R34; 70_reset_and_hazards.md R260; 00_scope.md R4). -/
def Obligations.ResetStatusAndInterruptsAreQuiet : Prop :=
  (∀ (c : Config) (u : Uart) (p : Spi), c.wf = true →
    (u.resetAll c).reg .stat = 0x00C00000#32 ∧ (u.resetAll c).irq = false ∧
    (p.softReset c).srLive = 1#32 ∧ (p.softReset c).fsr = 0#32 ∧ (p.softReset c).rsr = 2#32 ∧
    (p.softReset c).reg .cr &&& 0x00000303#32 = 0#32 ∧ (p.softReset c).irq = false ∧
    (p.powerOn c).srLive = 1#32 ∧ (p.powerOn c).fsr = 0#32 ∧ (p.powerOn c).rsr = 2#32 ∧
    (p.powerOn c).reg .cr &&& 0x00000303#32 = 0#32 ∧ (p.powerOn c).irq = false) ∧
  (∀ u ∈ State.reset.uarts, u.reg .stat = 0x00C00000#32 ∧ (∀ r, r ≠ .stat → u.reg r = 0#32) ∧
    u.fifoLive = 0x00C00000#32 ∧ u.waterLive = 0#32 ∧ u.tx = [] ∧ u.rx = []) ∧
  (∀ p ∈ State.reset.spis, (∀ r, p.reg r = 0#32) ∧ p.srLive = 1#32 ∧ p.tx = [] ∧ p.rx = [] ∧
    p.enabled = false ∧ p.master = false) ∧
  State.reset.uarts.length = 1 ∧ State.reset.spis.length = 1

/-- SPI.WR.CR with bit 1 of the value set puts every stored register at its reset value and empties both FIFOs,
enabled and master unchanged; with bit 1 clear it stores the zero-extended value with bits 1, 8, 9 as 0, makes
enabled bit 0 of the value, empties the TX FIFO if bit 8 and the RX FIFO if bit 9 is set, and leaves every other
register, master, the words exchanged and every other instance unchanged. (45_spi_write.md R212, R230;
70_reset_and_hazards.md R262, R268). -/
def Obligations.SpiCrWriteResetsOrConfigures : Prop :=
  ∀ (s : State) (n : Nat) (z : Size) (val : Word) (p : Spi), s.spis[n]? = some p →
    ∃ t q, exec (.spiWrCr n z val) s = .next t ∧ OnlySpi n q s t ∧ t.reply = { value := none, error := none } ∧
      q.master = p.master ∧ q.sent = p.sent ∧
      (val.getLsbD 1 = true →
        q.tx = [] ∧ q.rx = [] ∧ q.enabled = p.enabled ∧ ∀ r, q.reg r = s.cfg.spi.reset.get r) ∧
      (val.getLsbD 1 = false →
        (∀ j, (q.reg .cr).getLsbD j =
          if j = 1 ∨ j = 8 ∨ j = 9 then false else (zextSize z val).getLsbD j) ∧
        q.enabled = val.getLsbD 0 ∧ q.tx = (if (zextSize z val).getLsbD 8 = true then [] else p.tx) ∧
        q.rx = (if (zextSize z val).getLsbD 9 = true then [] else p.rx) ∧ ∀ r, r ≠ .cr → q.reg r = p.reg r)

/-- SPI.WR.SR clears WCF, FCF, TCF, TEF, REF (bits 8 to 12) where the value has a 1 and changes no other bit of the
stored SR, no other register, no FIFO, no hidden flag and no other instance. (45_spi_write.md R213). -/
def Obligations.SpiSrWriteClearsStickyFlags : Prop :=
  ∀ (s : State) (n : Nat) (z : Size) (val : Word) (p : Spi), s.spis[n]? = some p →
    ∃ t q, exec (.spiWrSr n z val) s = .next t ∧ OnlySpi n q s t ∧ t.reply = { value := none, error := none } ∧
      Spi.SameBut [.sr] p q ∧
      ∀ j, (q.reg .sr).getLsbD j =
        ((p.reg .sr).getLsbD j && !(decide (8 ≤ j ∧ j ≤ 12) && (zextSize z val).getLsbD j))

/-- SPI.WR.CFGR1 stores the zero-extended value and makes master bit 0 of it; every other register, both FIFOs,
enabled, the words exchanged and every other instance are unchanged. (45_spi_write.md R217; 10_state.md R25). -/
def Obligations.SpiCfgr1WriteLatchesMaster : Prop :=
  ∀ (s : State) (n : Nat) (z : Size) (val : Word) (p : Spi), s.spis[n]? = some p →
    ∃ t q, exec (.spiWrCfgr1 n z val) s = .next t ∧ OnlySpi n q s t ∧ t.reply = { value := none, error := none } ∧
      q.reg .cfgr1 = zextSize z val ∧ q.master = val.getLsbD 0 ∧ (∀ r, r ≠ .cfgr1 → q.reg r = p.reg r) ∧
      q.tx = p.tx ∧ q.rx = p.rx ∧ q.enabled = p.enabled ∧ q.sent = p.sent

/-- With the module disabled and room in the TX FIFO SPI.WR.TDR appends the zero-extended value and changes nothing
else; with the TX FIFO full, enabled or not, it sets SR.TEF and changes nothing else: no exchange takes place in
either case. (45_spi_write.md R225; 60_exceptions.md R241). -/
def Obligations.SpiTdrWriteQueuesOrOverflows : Prop :=
  ∀ (s : State) (n : Nat) (z : Size) (val : Word) (p : Spi), s.spis[n]? = some p →
    (p.enabled = false → p.tx.length < s.cfg.spi.txCap →
      ∃ t, exec (.spiWrTdr n z val) s = .next t ∧ t.reply = { value := none, error := none } ∧
        OnlySpi n { p with tx := p.tx ++ [zextSize z val] } s t) ∧
    (s.cfg.spi.txCap ≤ p.tx.length →
      ∃ t q, exec (.spiWrTdr n z val) s = .next t ∧ OnlySpi n q s t ∧ t.reply = { value := none, error := none } ∧
        Spi.SameBut [.sr] p q ∧ (q.reg .sr).getLsbD 11 = true ∧ SameBits [11] (p.reg .sr) (q.reg .sr))

/-- With the module enabled and room in the TX FIFO, SPI.WR.TDR passes the oldest word of the queue extended by the
value to the peer; the rest stays queued; the answer (the word sent for a loopback, the free value of log 3
otherwise) joins the RX FIFO or, when that is full, is dropped and REF set; WCF and FCF are set, TCF exactly when
the TX FIFO is left empty or it was set; no other bit, register, flag or instance changes. (45_spi_write.md R225,
R231; 70_reset_and_hazards.md R267; 00_scope.md R3). -/
def Obligations.SpiTdrWriteExchangesTheOldestWord : Prop :=
  ∀ (s : State) (n : Nat) (z : Size) (val : Word) (p : Spi) (e : Word) (rest : List Word),
    s.spis[n]? = some p → p.enabled = true → p.tx.length < s.cfg.spi.txCap →
    p.tx ++ [zextSize z val] = e :: rest →
    ∃ t q answer, exec (.spiWrTdr n z val) s = .next t ∧ OnlySpi n q s t ∧
      t.reply = { value := none, error := none } ∧
      (peerOf s.cfg n = .loopback → answer = e) ∧
      (peerOf s.cfg n = .external → answer = Config.peerAnswer n (p.sent ++ [e])) ∧
      q.tx = rest ∧ q.sent = p.sent ++ [e] ∧
      q.rx = (if p.rx.length < s.cfg.spi.rxCap then p.rx ++ [answer] else p.rx) ∧
      q.enabled = true ∧ q.master = p.master ∧ (∀ r, r ≠ .sr → q.reg r = p.reg r) ∧
      (q.reg .sr).getLsbD 8 = true ∧ (q.reg .sr).getLsbD 9 = true ∧
      (q.reg .sr).getLsbD 10 = (decide (rest = []) || (p.reg .sr).getLsbD 10) ∧
      (q.reg .sr).getLsbD 12 = (decide (s.cfg.spi.rxCap ≤ p.rx.length) || (p.reg .sr).getLsbD 12) ∧
      SameBits [8, 9, 10, 12] (p.reg .sr) (q.reg .sr)

/-- The level is 1 if and only if RDRF and RIE, or TDRE and TIE, or TC and TCIE, or IDLE and ILIE are both 1 in the
stored words; so no other bit of STAT or CTRL, nor GLOBAL.EN, TE, RE, nor RXUF or TXOF, affects it; in a state with
the invariant of R36 the fourth pair never contributes; after reset it is 0 under every admissible configuration,
and setting TIE or TCIE alone then asserts it. (R244). -/
def Obligations.UartInterruptIsTheOrOfItsPairs : Prop :=
  (∀ u : Uart,
    (u.irq = true ↔
      ((u.reg .stat).getLsbD 21 = true ∧ (u.reg .ctrl).getLsbD 21 = true) ∨
      ((u.reg .stat).getLsbD 23 = true ∧ (u.reg .ctrl).getLsbD 23 = true) ∨
      ((u.reg .stat).getLsbD 22 = true ∧ (u.reg .ctrl).getLsbD 22 = true) ∨
      ((u.reg .stat).getLsbD 20 = true ∧ (u.reg .ctrl).getLsbD 20 = true)) ∧
    (∀ i b, (i < 20 ∨ 24 ≤ i) → (u.setRegBit .stat i b).irq = u.irq ∧ (u.setRegBit .ctrl i b).irq = u.irq) ∧
    (∀ r w, r ≠ .stat → r ≠ .ctrl → (u.setReg r w).irq = u.irq) ∧
    (∀ c, u.Inv c →
      (u.irq = true ↔
        ((u.reg .stat).getLsbD 21 = true ∧ (u.reg .ctrl).getLsbD 21 = true) ∨
        ((u.reg .stat).getLsbD 23 = true ∧ (u.reg .ctrl).getLsbD 23 = true) ∨
        ((u.reg .stat).getLsbD 22 = true ∧ (u.reg .ctrl).getLsbD 22 = true)))) ∧
  (∀ (c : Config) (u : Uart), c.wf = true →
    (u.resetAll c).irq = false ∧ ((u.resetAll c).setRegBit .ctrl 23 true).irq = true ∧
      ((u.resetAll c).setRegBit .ctrl 22 true).irq = true)

/-- The level is 1 if and only if TDF and TDIE, or RDF and RDIE, or WCF and WCIE, or FCF and FCIE, or TCF and TCIE
are both 1, TDF and RDF computed from the live occupancies and FCR; TEF, REF, the other bits of SR and IER, enabled
and master do not affect it; after power-on it is 0 under every admissible configuration, and setting TDIE alone
then asserts it. (R245). -/
def Obligations.SpiInterruptIsTheOrOfItsPairs : Prop :=
  (∀ p : Spi,
    (p.irq = true ↔
      (p.tx.length ≤ ((p.reg .fcr).extractLsb' 0 16).toNat ∧ (p.reg .ier).getLsbD 0 = true) ∨
      (((p.reg .fcr).extractLsb' 16 16).toNat < p.rx.length ∧ (p.reg .ier).getLsbD 1 = true) ∨
      ((p.reg .sr).getLsbD 8 = true ∧ (p.reg .ier).getLsbD 8 = true) ∨
      ((p.reg .sr).getLsbD 9 = true ∧ (p.reg .ier).getLsbD 9 = true) ∨
      ((p.reg .sr).getLsbD 10 = true ∧ (p.reg .ier).getLsbD 10 = true)) ∧
    (∀ i b, ¬(8 ≤ i ∧ i ≤ 10) → (p.setRegBit .sr i b).irq = p.irq) ∧
    (∀ i b, ¬(8 ≤ i ∧ i ≤ 10) → i ≠ 0 → i ≠ 1 → (p.setRegBit .ier i b).irq = p.irq) ∧
    (∀ e m : Bool, ({ p with enabled := e, master := m } : Spi).irq = p.irq)) ∧
  (∀ (c : Config) (p : Spi), c.wf = true →
    (p.powerOn c).irq = false ∧ ((p.powerOn c).setRegBit .ier 0 true).irq = true)

/-- If a UART's stored RDRF equals (RX occupancy > RXWATER) and an operation other than a WATER write to it answers
a next state, it still does, under every admissible configuration. (10_state.md R36 item 7; 70_reset_and_hazards.md
R269). -/
def Obligations.RdrfGoesStaleOnlyByWatermarkWrites : Prop :=
  ∀ (i : Instr) (s t : State) (n : Nat) (u v : Uart), s.cfg.wf = true → (∀ z val, i ≠ .uartWrWater n z val) →
    exec i s = .next t → s.uarts[n]? = some u → t.uarts[n]? = some v →
    (u.reg .stat).getLsbD 21 = u.rdrfCalc → (v.reg .stat).getLsbD 21 = v.rdrfCalc

/-- If an SPI is enabled, its TX FIFO is empty and its capacity is at least 1, its TX FIFO is empty after any
operation that answers a next state; and no operation but a TDR write to a disabled SPI lengthens its TX FIFO.
(10_state.md R36 item 6). -/
def Obligations.EnabledSpiLeavesNoBacklog : Prop :=
  ∀ (i : Instr) (s t : State) (n : Nat) (p q : Spi), exec i s = .next t → s.spis[n]? = some p → t.spis[n]? = some q →
    (p.enabled = true → p.tx = [] → 1 ≤ s.cfg.spi.txCap → q.tx = []) ∧
    (p.tx.length < q.tx.length → p.enabled = false ∧ ∃ z val, i = .spiWrTdr n z val)

/-- Over any operation the words exchanged followed by the words queued of an SPI change only by a word appended by
a TDR write to it, or by the loss of the queue in a power-on reset or a CR write with RST or RTF; and the words
exchanged change only by one word appended by a TDR write while it is enabled. (45_spi_write.md R233;
70_reset_and_hazards.md R266). -/
def Obligations.SpiWordsAreConservedInOrder : Prop :=
  ∀ (i : Instr) (s t : State) (n : Nat) (p q : Spi), exec i s = .next t → s.spis[n]? = some p → t.spis[n]? = some q →
    (q.sent ++ q.tx = p.sent ++ p.tx ∨
      (∃ z val, i = .spiWrTdr n z val ∧ p.tx.length < s.cfg.spi.txCap ∧
        q.sent ++ q.tx = p.sent ++ p.tx ++ [zextSize z val]) ∨
      (q.sent = p.sent ∧ q.tx = [] ∧
        (i = .spiEvtPor n ∨
          ∃ z val, i = .spiWrCr n z val ∧ (val.getLsbD 1 = true ∨ (zextSize z val).getLsbD 8 = true)))) ∧
    (q.sent = p.sent ∨
      (p.enabled = true ∧ ∃ z val w, i = .spiWrTdr n z val ∧ q.sent = p.sent ++ [w]))

/-- Over any operation the output stream of a UART changes only by one byte appended by a DATA write to it with TE
set; its RX FIFO changes only by the accepted byte appended by a receive callback with RE set and room, by its
oldest byte removed and answered by a DATA read, or by being emptied by a power-on reset or a GLOBAL write with RST.
(43_uart_events.md R172, R173, R174). -/
def Obligations.UartBytesMoveOnlyAsTheStreamsSay : Prop :=
  ∀ (i : Instr) (s t : State) (n : Nat) (u v : Uart), exec i s = .next t → s.uarts[n]? = some u →
    t.uarts[n]? = some v →
    (v.out = u.out ∨
      (u.te = true ∧ ∃ z val b, i = .uartWrData n z val ∧ v.out = u.out ++ [b] ∧ (u.tx = [] → b = val.setWidth 8))) ∧
    (v.rx = u.rx ∨
      (u.re = true ∧ u.rx.length < s.cfg.uart.rxCap ∧ ∃ b, i = .uartEvtRx n b ∧ v.rx = u.rx ++ [b]) ∨
      (∃ z b, i = .uartRdData n z ∧ u.rx = b :: v.rx ∧ t.reply.value = some (truncSize z (b.setWidth 32))) ∨
      (v.rx = [] ∧ (i = .uartEvtPor n ∨ ∃ z val, i = .uartWrGlobal n z val ∧ val.getLsbD 0 = true)))

/-- Take two states that differ only in UART GLOBAL, the eleven plain UART registers, the seven plain SPI registers,
CFGR1 and master (and the last reply). The same operation performed on both answers states that again differ only
there; and the replies are equal unless it reads one of those registers. (10_state.md R14, R18, R25, R29). -/
def Obligations.InertRegistersNeverMatter : Prop :=
  ∀ (i : Instr) (s₁ s₂ t₁ t₂ : State), s₁.eraseInert = s₂.eraseInert → exec i s₁ = .next t₁ → exec i s₂ = .next t₂ →
    t₁.eraseInert = t₂.eraseInert ∧ (readsInert s₁.cfg i = false → t₁.reply = t₂.reply)

/-- For every circular buffer with the invariants of R31, of any element width and capacity: push, pop, peek and
clear keep the invariants, report the same result, and leave the elements held as the list form says: push appends
if there is room and otherwise changes nothing, pop removes and returns the first element or returns (false, 0),
peek returns the first, clear empties; the count is the length, and after any sequence of pushes and pops at most
the capacity; and a clear, then N pushes with N at most the capacity, then N pops return the elements in order.
(R94). -/
def Obligations.RingBufferRefinesList : Prop :=
  ∀ (m cap : Nat) (f : Ring m) (e : BitVec m), f.wf cap →
    (f.held cap).length = f.count ∧ (f.held cap).length ≤ cap ∧
    ((f.push cap e).2.wf cap ∧
      ((f.push cap e).1, (f.push cap e).2.held cap)
        = (if (f.held cap).length < cap then (true, f.held cap ++ [e]) else (false, f.held cap)) ∧
      ((f.push cap e).1, (f.push cap e).2.held cap) = fifoPush cap (f.held cap) e) ∧
    ((f.pop cap).2.2.wf cap ∧
      ((f.pop cap).1, (f.pop cap).2.1, (f.pop cap).2.2.held cap)
        = (match f.held cap with
          | [] => (false, 0, [])
          | x :: rest => (true, x, rest)) ∧
      ((f.pop cap).1, (f.pop cap).2.1, (f.pop cap).2.2.held cap) = fifoPop (f.held cap)) ∧
    (f.peek = fifoPeek (f.held cap) ∧
      f.peek
        = (match f.held cap with
          | [] => (false, 0)
          | x :: _ => (true, x))) ∧
    (f.clear.wf cap ∧ f.clear.held cap = [] ∧ fifoClear (f.held cap) = []) ∧
    (∀ ops : List (RingOp m), (f.runAll cap ops).count ≤ cap) ∧
    (∀ es : List (BitVec m), es.length ≤ cap → (f.clear.pushAll cap es).popAll cap es.length = es)

/-- With a loopback peer, the module enabled, both FIFOs empty and a TX capacity of at least 1: writing any list of
words to TDR performs, leaves the TX FIFO empty and the RX FIFO holding the first RX-capacity words, sets REF if
there were more, and sets no other error flag; if there were not more, reading RDR as often then answers exactly
those words in order, leaves both FIFOs empty and sets no error flag. (45_spi_write.md R232; 95_test_vectors.md T5). -/
def Obligations.SpiLoopbackRoundTrip : Prop :=
  ∀ (s : State) (n : Nat) (p : Spi) (ws : List Word),
    s.spis[n]? = some p → peerOf s.cfg n = .loopback → p.enabled = true → p.tx = [] → p.rx = [] →
    1 ≤ s.cfg.spi.txCap →
    ∃ t q rs, performAll (ws.map (fun w => Instr.spiWrTdr n .b4 w)) s = some (t, rs) ∧ OnlySpi n q s t ∧
      q.tx = [] ∧ q.rx = ws.take s.cfg.spi.rxCap ∧ q.sent = p.sent ++ ws ∧
      (q.reg .sr).getLsbD 11 = (p.reg .sr).getLsbD 11 ∧
      (q.reg .sr).getLsbD 12 = (decide (s.cfg.spi.rxCap < ws.length) || (p.reg .sr).getLsbD 12) ∧
      (ws.length ≤ s.cfg.spi.rxCap →
        ∃ t' q', performAll (ws.map (fun _ => Instr.spiRdRdr n .b4)) t
            = some (t', ws.map (fun w => { value := some w, error := none })) ∧
          OnlySpi n q' s t' ∧ q'.tx = [] ∧ q'.rx = [] ∧
          (q'.reg .sr).getLsbD 11 = (p.reg .sr).getLsbD 11 ∧ (q'.reg .sr).getLsbD 12 = (p.reg .sr).getLsbD 12)

/-- With RE set and the RX FIFO empty: delivering any list of bytes performs, leaves the RX FIFO holding the first
RX-capacity bytes, and sets OR exactly if there were more or it was set; reading DATA once per byte held then
answers exactly those bytes in order and leaves the RX FIFO empty and RXUF as it was. (43_uart_events.md R173;
95_test_vectors.md T9). -/
def Obligations.UartReceivedBytesAreReadInOrder : Prop :=
  ∀ (s : State) (n : Nat) (u : Uart) (bs : List Byte), s.uarts[n]? = some u → u.re = true → u.rx = [] →
    ∃ t v rs, performAll (bs.map (fun b => Instr.uartEvtRx n b)) s = some (t, rs) ∧ OnlyUart n v s t ∧
      v.rx = bs.take s.cfg.uart.rxCap ∧ v.out = u.out ∧
      (v.reg .stat).getLsbD 19 = (decide (s.cfg.uart.rxCap < bs.length) || (u.reg .stat).getLsbD 19) ∧
      ∃ t' v', performAll (v.rx.map (fun _ => Instr.uartRdData n .b4)) t
          = some (t', v.rx.map (fun b => { value := some (b.setWidth 32), error := none })) ∧
        OnlyUart n v' s t' ∧ v'.rx = [] ∧ (v'.reg .fifo).getLsbD 16 = (u.reg .fifo).getLsbD 16

/-- With TE set, the TX FIFO empty and a TX capacity of at least 1, writing any list of words to DATA at any size
performs and appends the low byte of each, in order, to the output stream; the TX FIFO is empty afterwards, the RX
FIFO unchanged, and after at least one write TDRE and TC are set. (43_uart_events.md R172, R173; 95_test_vectors.md
T8). -/
def Obligations.UartTransmittedBytesAppearInOrder : Prop :=
  ∀ (s : State) (n : Nat) (z : Size) (u : Uart) (ws : List Word),
    s.uarts[n]? = some u → u.te = true → u.tx = [] → 1 ≤ s.cfg.uart.txCap →
    ∃ t v rs, performAll (ws.map (fun w => Instr.uartWrData n z w)) s = some (t, rs) ∧ OnlyUart n v s t ∧
      v.out = u.out ++ ws.map (fun w => w.setWidth 8) ∧ v.tx = [] ∧ v.rx = u.rx ∧
      (ws ≠ [] → (v.reg .stat).getLsbD 22 = true ∧ (v.reg .stat).getLsbD 23 = true)

/-- Under an admissible configuration a load or store of n bytes at BASE + off of a UART or SPI instance, off below
the region size, becomes a request to that instance with class RD or WR, the size field of n and the offset, a store
carrying its value's low 8*n bits (that a larger value is cut to them is the model's choice, log 16); an instruction
fetch presented as a read becomes the request of the load (D4), one presented as a fetch is refused by name (R55;
that the model has both forms is its choice, log 15); and an address outside every region belongs to no instance,
which the model refuses (log 16). (20_memory.md R40, R41, R42, R55; 92_eei_decisions.md D4). -/
def Obligations.BusAccessesReachTheirRegister : Prop :=
  ∀ (c : Config) (addr len val : Nat),
    (c.wf = true → ∀ (n : Nat) (w : UartWiring) (off : Nat), c.uart.wiring[n]? = some w → off < c.uart.regionSize →
      addr = w.base + off →
      (∀ a ∈ [BusAccess.load addr len, .fetch .asRead addr len],
        busRequest c a
          = .ok { inst := n, sel := packSel .rd (sizeOfBytes len) .uart (BitVec.ofNat 24 off), val := 0#32 }) ∧
      busRequest c (.store addr len val)
        = .ok { inst := n, sel := packSel .wr (sizeOfBytes len) .uart (BitVec.ofNat 24 off)
                val := BitVec.ofNat 32 (val % 2 ^ (8 * len)) }) ∧
    (c.wf = true → ∀ (n : Nat) (w : SpiWiring) (off : Nat), c.spi.wiring[n]? = some w → off < c.spi.regionSize →
      addr = w.base + off →
      (∀ a ∈ [BusAccess.load addr len, .fetch .asRead addr len],
        busRequest c a
          = .ok { inst := n, sel := packSel .rd (sizeOfBytes len) .spi (BitVec.ofNat 24 off), val := 0#32 }) ∧
      busRequest c (.store addr len val)
        = .ok { inst := n, sel := packSel .wr (sizeOfBytes len) .spi (BitVec.ofNat 24 off)
                val := BitVec.ofNat 32 (val % 2 ^ (8 * len)) }) ∧
    ((∀ g ∈ c.regions, ¬(g.1 ≤ addr ∧ addr < g.1 + g.2)) →
      ∀ a ∈ [BusAccess.load addr len, .store addr len val, .fetch .asRead addr len],
        busRequest c a = .error (.noDeviceAt addr)) ∧
    busRequest c (.fetch .asFetch addr len) = .error (.instructionFetch addr)

/-- flushtx and flushrx of R71 expand to CR writes that empty the TX or the RX FIFO, keep the other, make enabled
the MEN bit asked for and store it as the only bit of CR; softreset of an SPI keeps enabled. (30_encoding.md R71;
45_spi_write.md R212; 70_reset_and_hazards.md R268). -/
def Obligations.FlushKeepsOrDropsEnable : Prop :=
  ∀ (s : State) (n : Nat) (on : Bool) (p : Spi), s.spis[n]? = some p →
    (∃ t q, exec (Pseudo.flushTx n on).expand s = .next t ∧ OnlySpi n q s t ∧ q.tx = [] ∧ q.rx = p.rx ∧
      q.enabled = on ∧ q.reg .cr = (if on then 1#32 else 0#32) ∧ ∀ r, r ≠ .cr → q.reg r = p.reg r) ∧
    (∃ t q, exec (Pseudo.flushRx n on).expand s = .next t ∧ OnlySpi n q s t ∧ q.tx = p.tx ∧ q.rx = [] ∧
      q.enabled = on ∧ q.reg .cr = (if on then 1#32 else 0#32) ∧ ∀ r, r ≠ .cr → q.reg r = p.reg r) ∧
    (∃ t q, exec (Pseudo.softresetSpi n).expand s = .next t ∧ OnlySpi n q s t ∧ q.tx = [] ∧ q.rx = [] ∧
      q.enabled = p.enabled)

/-- Under an admissible configuration and with nothing pending (log 5), issuing a load of any size at BASE + off of
a UART or SPI instance makes the next step the read of that instance, size and offset, and issuing a store the write
of the value's low 8*n bits (that a larger value is cut to them is the model's choice, log 16). An instruction fetch
presented as a read runs the same read: D4 says so, R55 says that a model must refuse a fetch, and that the model
has this form beside the refused one is its choice (log 15). So a load or such a fetch of UART DATA or SPI RDR runs
UART.RD.DATA or SPI.RD.RDR, side effects included. (20_memory.md R41, R47, R50; 92_eei_decisions.md D4;
41_uart_read.md R117; 44_spi_read.md R197). -/
def Obligations.BusAccessesRunTheirOperation : Prop :=
  ∀ (s : State) (n addr off len val : Nat), s.cfg.wf = true → s.ops = [] →
    (∀ w : UartWiring, s.cfg.uart.wiring[n]? = some w → addr = w.base + off → off < s.cfg.uart.regionSize →
      (∀ a ∈ [BusAccess.load addr len, .fetch .asRead addr len],
        (∃ t, busIssue a s = .next t ∧
          step t = exec (decodeRead s.cfg .uart n (sizeOfBytes len) (BitVec.ofNat 24 off)) s) ∧
        (∀ z : Size, len = z.bytes → off = 0x1C → ∃ t, busIssue a s = .next t ∧ step t = exec (.uartRdData n z) s)) ∧
      ∃ t, busIssue (.store addr len val) s = .next t ∧
        step t = exec (decodeWrite s.cfg .uart n (sizeOfBytes len) (BitVec.ofNat 24 off)
          (BitVec.ofNat 32 (val % 2 ^ (8 * len)))) s) ∧
    (∀ w : SpiWiring, s.cfg.spi.wiring[n]? = some w → addr = w.base + off → off < s.cfg.spi.regionSize →
      (∀ a ∈ [BusAccess.load addr len, .fetch .asRead addr len],
        (∃ t, busIssue a s = .next t ∧
          step t = exec (decodeRead s.cfg .spi n (sizeOfBytes len) (BitVec.ofNat 24 off)) s) ∧
        (∀ z : Size, len = z.bytes → off = 0x74 → ∃ t, busIssue a s = .next t ∧ step t = exec (.spiRdRdr n z) s)) ∧
      ∃ t, busIssue (.store addr len val) s = .next t ∧
        step t = exec (decodeWrite s.cfg .spi n (sizeOfBytes len) (BitVec.ofNat 24 off)
          (BitVec.ofNat 32 (val % 2 ^ (8 * len)))) s)
end

