-- ==== Sys2Proof/Laws/Bits.lean ====
section
/-!
SUPPORT. The bit-level lemmas of the operand helpers: one lemma each for what bit `j` of the result is.
-/

namespace Sys2Proof

theorem getLsbD_bit (i j : Nat) : (bit i).getLsbD j = decide (j = i ∧ j < 32) := by
  unfold bit
  rw [BitVec.getLsbD_shiftLeft, BitVec.getLsbD_one]
  by_cases h : j < 32 <;> by_cases h' : j = i <;> simp [h, h']
  omega

/-- `d.reg[NAME][i] <- b` changes bit `i` and no other. -/
theorem getLsbD_setBit (w : Word) (i j : Nat) (b : Bool) :
    (setBit w i b).getLsbD j = if j = i ∧ j < 32 then b else w.getLsbD j := by
  by_cases h : j < 32
  · unfold setBit
    cases b
    · rw [if_neg Bool.false_ne_true, BitVec.getLsbD_and, BitVec.getLsbD_not, getLsbD_bit]
      by_cases h' : j = i
      · subst h'; simp [h]
      · simp [h, h']
    · rw [if_pos rfl, BitVec.getLsbD_or, getLsbD_bit]
      by_cases h' : j = i
      · subst h'; simp [h]
      · simp [h']
  · rw [BitVec.getLsbD_of_ge _ j (by omega), BitVec.getLsbD_of_ge _ j (by omega)]
    simp [h]

/-- The same, in the form simp gives a bit at a known place. -/
theorem getElem_setBit (w : Word) (i j : Nat) (b : Bool) (h : j < 32) :
    (setBit w i b)[j] = if j = i then b else w[j] := by
  have e := getLsbD_setBit w i j b
  rw [BitVec.getLsbD_eq_getElem h, BitVec.getLsbD_eq_getElem h] at e
  simpa [h] using e

/-- Write-1-to-clear clears exactly the bits written as 1 in the mask (R103). -/
theorem getLsbD_clearOnes (old w mask : Word) (j : Nat) :
    (clearOnes old w mask).getLsbD j = (old.getLsbD j && !(w.getLsbD j && mask.getLsbD j)) := by
  by_cases h : j < 32
  · simp [clearOnes, h]
  · simp [clearOnes, h, BitVec.getLsbD_of_ge old j (by omega)]

/-- Write-1-to-clear never sets a bit (R103). -/
theorem clearOnes_and_eq_zero (old w mask m : Word) (h : old &&& m = 0#32) : clearOnes old w mask &&& m = 0#32 := by
  unfold clearOnes
  rw [BitVec.and_assoc, BitVec.and_comm (~~~(w &&& mask)), ← BitVec.and_assoc, h, BitVec.zero_and]

theorem getLsbD_sizeMask (z : Size) (j : Nat) : (sizeMask z).getLsbD j = decide (j < 8 * z.bytes) := by
  by_cases h : j < 32
  · revert j; cases z <;> decide
  · rw [BitVec.getLsbD_of_ge _ _ (by omega)]
    refine (decide_eq_false ?_).symm
    cases z <;> simp only [Size.bytes] <;> omega

/-- A narrow read keeps the low `8*size` bits (R45). -/
theorem getLsbD_truncSize (z : Size) (w : Word) (j : Nat) :
    (truncSize z w).getLsbD j = (w.getLsbD j && decide (j < 8 * z.bytes)) := by
  simp [truncSize, getLsbD_sizeMask]

/-- A narrow write zero-extends its value (R45). -/
theorem getLsbD_zextSize (z : Size) (w : Word) (j : Nat) :
    (zextSize z w).getLsbD j = (w.getLsbD j && decide (j < 8 * z.bytes)) := by
  simp [zextSize, getLsbD_sizeMask]

@[simp] theorem zextSize_zextSize (z : Size) (w : Word) : zextSize z (zextSize z w) = zextSize z w := by
  unfold zextSize; rw [BitVec.and_assoc, BitVec.and_self]

@[simp] theorem zextSize_b4 (w : Word) : zextSize .b4 w = w := by
  show w &&& BitVec.allOnes 32 = w
  exact BitVec.and_allOnes

@[simp] theorem truncSize_b4 (w : Word) : truncSize .b4 w = w := by
  show w &&& BitVec.allOnes 32 = w
  exact BitVec.and_allOnes

@[simp] theorem sizeOfCode_sizeCode (z : Option Size) : sizeOfCode (sizeCode z) = z := by
  rcases z with _ | (_ | _ | _) <;> rfl

theorem sizeCode_sizeOfCode : ∀ c : BitVec 2, sizeCode (sizeOfCode c) = c := by decide

/-- The byte of a zero-extended byte is the byte (R104). -/
@[simp] theorem lowByte_byteToWord (b : Byte) : lowByte (byteToWord b) = b := by
  unfold lowByte byteToWord
  apply BitVec.eq_of_getLsbD_eq
  intro i hi
  simp [hi]; omega

theorem validAccess_some (rs : Nat) (z : Size) (off : Off) :
    validAccess rs (some z) off = true ↔ off.toNat % z.bytes = 0 ∧ off.toNat + z.bytes ≤ rs := by
  simp [validAccess]

@[simp] theorem validAccess_none (rs : Nat) (off : Off) : validAccess rs none off = false := rfl

end Sys2Proof
end

