-- ==== Sys2Proof/Laws/Bus.lean ====
section
/-!
SUPPORT. What routing an address and issuing a bus access can do (20_memory.md rules R40, R41, R55).
-/

namespace Sys2Proof.Machine

@[simp] theorem inRegion_eq_true (base size addr : Nat) :
    inRegion base size addr = true ↔ base ≤ addr ∧ addr < base + size := by simp [inRegion]

/-- No region is found exactly when none of them holds the address. -/
theorem findRegion_eq_none {size addr : Nat} {bases : List Nat} :
    findRegion size addr bases = none ↔ ∀ b ∈ bases, ¬(b ≤ addr ∧ addr < b + size) := by
  induction bases with
  | nil => simp [findRegion]
  | cons b rest ih =>
    rw [findRegion]
    split
    · rename_i h; simp [(inRegion_eq_true b size addr).mp h]
    · rename_i h; rw [inRegion_eq_true] at h; simp only [Option.map_eq_none_iff, ih,
        List.forall_mem_cons, h, not_false_eq_true, true_and]

/-- The region of index `n` is the one found when it holds the address and no earlier one does. -/
theorem findRegion_eq_some {size addr n b : Nat} {bases : List Nat} (hb : bases[n]? = some b)
    (hold : b ≤ addr ∧ addr < b + size)
    (first : ∀ m b', m < n → bases[m]? = some b' → ¬(b' ≤ addr ∧ addr < b' + size)) :
    findRegion size addr bases = some (n, addr - b) := by
  induction bases generalizing n with
  | nil => simp at hb
  | cons c rest ih =>
    cases n with
    | zero =>
      obtain rfl : c = b := by simpa using hb
      rw [findRegion, if_pos ((inRegion_eq_true _ _ _).mpr hold)]
    | succ n =>
      have hc : ¬(c ≤ addr ∧ addr < c + size) := first 0 c (Nat.succ_pos n) rfl
      rw [findRegion, if_neg (by rwa [inRegion_eq_true]),
        ih (by simpa using hb) (fun m b' hm h => first (m + 1) b' (Nat.succ_lt_succ hm) (by simpa using h))]
      rfl

/-- An instruction fetch presented as a read makes the request of the load (92_eei_decisions.md D4). -/
@[simp] theorem busRequest_fetch_asRead (c : Config) (addr n : Nat) :
    busRequest c (.fetch .asRead addr n) = busRequest c (.load addr n) := rfl

/-- If issuing an access goes on, its request joins the end of the pending ones and nothing else changes. -/
theorem busIssue_inv {a : BusAccess} {s t : State} (h : busIssue a s = .next t) :
    ∃ r, busRequest s.cfg a = .ok r ∧ t = { s with ops := s.ops ++ [r] } := by
  unfold busIssue at h
  split at h
  · cases h
  · rename_i r hr
    exact ⟨r, hr, by cases h; rfl⟩

end Sys2Proof.Machine
end

