-- ==== Sys2Proof/Laws/Encoding.lean ====
section
/-!
SUPPORT. The fields of a packed descriptor (30_encoding.md rule R61), and what the decoder answers on one (R62).
-/

namespace Sys2Proof

@[simp] theorem clsOfCode_clsCode (cls : Cls) : clsOfCode (clsCode cls) = some cls := by cases cls <;> rfl
@[simp] theorem kindOfCode_kindCode (k : Kind) : kindOfCode (kindCode k) = some k := by cases k <;> rfl

/-- The field `cls` of a packed descriptor. -/
theorem packSel_cls (cls : Cls) (z : Option Size) (k : Kind) (off : Off) :
    (packSel cls z k off).extractLsb' 30 2 = clsCode cls := by
  unfold packSel
  generalize clsCode cls = a
  generalize sizeCode z = b
  generalize kindCode k = e
  apply BitVec.eq_of_getLsbD_eq
  intro i hi
  interval_cases i <;> simp

/-- The field `lgsz` of a packed descriptor. -/
theorem packSel_lgsz (cls : Cls) (z : Option Size) (k : Kind) (off : Off) :
    (packSel cls z k off).extractLsb' 28 2 = sizeCode z := by
  unfold packSel
  generalize clsCode cls = a
  generalize sizeCode z = b
  generalize kindCode k = e
  apply BitVec.eq_of_getLsbD_eq
  intro i hi
  interval_cases i <;> simp

/-- The field `kind` of a packed descriptor. -/
theorem packSel_kind (cls : Cls) (z : Option Size) (k : Kind) (off : Off) :
    (packSel cls z k off).extractLsb' 24 4 = kindCode k := by
  unfold packSel
  generalize clsCode cls = a
  generalize sizeCode z = b
  generalize kindCode k = e
  apply BitVec.eq_of_getLsbD_eq
  intro i hi
  interval_cases i <;> simp

/-- The field `off` of a packed descriptor. -/
theorem packSel_off (cls : Cls) (z : Option Size) (k : Kind) (off : Off) :
    (packSel cls z k off).extractLsb' 0 24 = off := by
  unfold packSel
  generalize clsCode cls = a
  generalize sizeCode z = b
  generalize kindCode k = e
  apply BitVec.eq_of_getLsbD_eq
  intro i hi
  interval_cases i <;> simp

/-- The decoder on a packed read of an instance that exists. -/
theorem decode_rd {c : Config} {n : Nat} {z : Option Size} {k : Kind} {off : Off} {v : Word} (h : n < c.count k) :
    decode c { inst := n, sel := packSel .rd z k off, val := v } = .ok (decodeRead c k n z off) := by
  unfold decode
  simp only [packSel_cls, packSel_kind, packSel_lgsz, packSel_off, clsOfCode_clsCode, kindOfCode_kindCode,
    sizeOfCode_sizeCode, if_neg (Nat.not_le.mpr h)]

/-- The decoder on a packed write to an instance that exists. -/
theorem decode_wr {c : Config} {n : Nat} {z : Option Size} {k : Kind} {off : Off} {v : Word} (h : n < c.count k) :
    decode c { inst := n, sel := packSel .wr z k off, val := v } = .ok (decodeWrite c k n z off v) := by
  unfold decode
  simp only [packSel_cls, packSel_kind, packSel_lgsz, packSel_off, clsOfCode_clsCode, kindOfCode_kindCode,
    sizeOfCode_sizeCode, if_neg (Nat.not_le.mpr h)]

/-- The decoder on a packed event of an instance that exists. -/
theorem decode_evt {c : Config} {n : Nat} {z : Option Size} {k : Kind} {off : Off} {v : Word} (h : n < c.count k) :
    decode c { inst := n, sel := packSel .evt z k off, val := v } = decodeEvent k n (sizeCode z) off v := by
  unfold decode
  simp only [packSel_cls, packSel_kind, packSel_lgsz, packSel_off, clsOfCode_clsCode, kindOfCode_kindCode,
    if_neg (Nat.not_le.mpr h)]

end Sys2Proof
end

