-- ==== Sys2Proof/Laws/State.lean ====
section
/-!
SUPPORT. One lemma per field per update of the state records, and the read-over-write laws of the register files, so
that no later proof unfolds a record update.
-/

namespace Sys2Proof

/-- A write to a stored UART word changes that word and no other. -/
@[simp] theorem UartRegs.get_set (g : UartRegs) (r q : UartReg) (w : Word) :
    (g.set r w).get q = if q = r then w else g.get q := by
  cases r <;> cases q <;> rfl

/-- A write to a stored SPI word changes that word and no other. -/
@[simp] theorem SpiRegs.get_set (g : SpiRegs) (r q : SpiReg) (w : Word) :
    (g.set r w).get q = if q = r then w else g.get q := by
  cases r <;> cases q <;> rfl

/-- Two UART register files with the same words are equal. -/
theorem UartRegs.ext_get {g h : UartRegs} (e : ∀ r, g.get r = h.get r) : g = h := by
  cases g; cases h
  simp only [UartRegs.mk.injEq]
  exact ⟨e .global, e .pincfg, e .baud, e .stat, e .ctrl, e .data, e .matchReg, e .modir, e .fifo, e .water, e .mcr,
    e .msr, e .reir, e .teir, e .hdcr, e .tocr, e .tosr⟩

/-- Two SPI register files with the same words are equal. -/
theorem SpiRegs.ext_get {g h : SpiRegs} (e : ∀ r, g.get r = h.get r) : g = h := by
  cases g; cases h
  simp only [SpiRegs.mk.injEq]
  exact ⟨e .cr, e .sr, e .ier, e .der, e .cfgr0, e .cfgr1, e .dmr0, e .dmr1, e .ccr, e .ccr1, e .fcr, e .tcr⟩

@[simp] theorem Config.regionSize_uart (c : Config) : c.regionSize .uart = c.uart.regionSize := rfl
@[simp] theorem Config.regionSize_spi (c : Config) : c.regionSize .spi = c.spi.regionSize := rfl
@[simp] theorem Config.count_uart (c : Config) : c.count .uart = c.uart.wiring.length := rfl
@[simp] theorem Config.count_spi (c : Config) : c.count .spi = c.spi.wiring.length := rfl

namespace Machine

@[simp] theorem Uart.reg_mk (g : UartRegs) (t r o : List Byte) (q : UartReg) : (Uart.mk g t r o).reg q = g.get q := rfl
@[simp] theorem Uart.regs_get (u : Uart) (q : UartReg) : u.regs.get q = u.reg q := rfl
@[simp] theorem Uart.setReg_tx (u : Uart) (r : UartReg) (w : Word) : (u.setReg r w).tx = u.tx := rfl
@[simp] theorem Uart.setReg_rx (u : Uart) (r : UartReg) (w : Word) : (u.setReg r w).rx = u.rx := rfl
@[simp] theorem Uart.setReg_out (u : Uart) (r : UartReg) (w : Word) : (u.setReg r w).out = u.out := rfl
@[simp] theorem Uart.setReg_regs (u : Uart) (r : UartReg) (w : Word) : (u.setReg r w).regs = u.regs.set r w := rfl
@[simp] theorem Uart.reg_setReg (u : Uart) (r q : UartReg) (w : Word) :
    (u.setReg r w).reg q = if q = r then w else u.reg q := UartRegs.get_set u.regs r q w
@[simp] theorem Uart.setRegBit_tx (u : Uart) (r : UartReg) (i : Nat) (b : Bool) : (u.setRegBit r i b).tx = u.tx := rfl
@[simp] theorem Uart.setRegBit_rx (u : Uart) (r : UartReg) (i : Nat) (b : Bool) : (u.setRegBit r i b).rx = u.rx := rfl
@[simp] theorem Uart.setRegBit_out (u : Uart) (r : UartReg) (i : Nat) (b : Bool) : (u.setRegBit r i b).out = u.out := rfl
@[simp] theorem Uart.reg_setRegBit (u : Uart) (r q : UartReg) (i : Nat) (b : Bool) :
    (u.setRegBit r i b).reg q = if q = r then setBit (u.reg r) i b else u.reg q := Uart.reg_setReg u r q _
@[simp] theorem Uart.send_regs (b : Byte) (u : Uart) : (u.send b).regs = u.regs := rfl
@[simp] theorem Uart.send_tx (b : Byte) (u : Uart) : (u.send b).tx = u.tx := rfl
@[simp] theorem Uart.send_rx (b : Byte) (u : Uart) : (u.send b).rx = u.rx := rfl
@[simp] theorem Uart.send_out (b : Byte) (u : Uart) : (u.send b).out = u.out ++ [b] := rfl
@[simp] theorem Uart.reg_send (b : Byte) (u : Uart) (q : UartReg) : (u.send b).reg q = u.reg q := rfl
@[simp] theorem Uart.resetAll_regs (c : Config) (u : Uart) : (u.resetAll c).regs = c.uart.reset := rfl
@[simp] theorem Uart.resetAll_tx (c : Config) (u : Uart) : (u.resetAll c).tx = [] := rfl
@[simp] theorem Uart.resetAll_rx (c : Config) (u : Uart) : (u.resetAll c).rx = [] := rfl
@[simp] theorem Uart.resetAll_out (c : Config) (u : Uart) : (u.resetAll c).out = u.out := rfl
@[simp] theorem Uart.reg_resetAll (c : Config) (u : Uart) (q : UartReg) :
    (u.resetAll c).reg q = c.uart.reset.get q := rfl

/-- Two UART instances with the same words, FIFOs and stream are equal. -/
theorem Uart.ext_reg {u v : Uart} (hr : ∀ r, u.reg r = v.reg r) (ht : u.tx = v.tx) (hx : u.rx = v.rx)
    (ho : u.out = v.out) : u = v := by
  cases u; cases v
  simp only [Uart.mk.injEq]
  exact ⟨UartRegs.ext_get hr, ht, hx, ho⟩

@[simp] theorem Spi.reg_mk (g : SpiRegs) (t r : List Word) (e m : Bool) (n : List Word) (q : SpiReg) :
    (Spi.mk g t r e m n).reg q = g.get q := rfl
@[simp] theorem Spi.regs_get (p : Spi) (q : SpiReg) : p.regs.get q = p.reg q := rfl
@[simp] theorem Spi.setReg_tx (p : Spi) (r : SpiReg) (w : Word) : (p.setReg r w).tx = p.tx := rfl
@[simp] theorem Spi.setReg_rx (p : Spi) (r : SpiReg) (w : Word) : (p.setReg r w).rx = p.rx := rfl
@[simp] theorem Spi.setReg_enabled (p : Spi) (r : SpiReg) (w : Word) : (p.setReg r w).enabled = p.enabled := rfl
@[simp] theorem Spi.setReg_master (p : Spi) (r : SpiReg) (w : Word) : (p.setReg r w).master = p.master := rfl
@[simp] theorem Spi.setReg_sent (p : Spi) (r : SpiReg) (w : Word) : (p.setReg r w).sent = p.sent := rfl
@[simp] theorem Spi.setReg_regs (p : Spi) (r : SpiReg) (w : Word) : (p.setReg r w).regs = p.regs.set r w := rfl
@[simp] theorem Spi.reg_setReg (p : Spi) (r q : SpiReg) (w : Word) :
    (p.setReg r w).reg q = if q = r then w else p.reg q := SpiRegs.get_set p.regs r q w
@[simp] theorem Spi.setRegBit_tx (p : Spi) (r : SpiReg) (i : Nat) (b : Bool) : (p.setRegBit r i b).tx = p.tx := rfl
@[simp] theorem Spi.setRegBit_rx (p : Spi) (r : SpiReg) (i : Nat) (b : Bool) : (p.setRegBit r i b).rx = p.rx := rfl
@[simp] theorem Spi.setRegBit_enabled (p : Spi) (r : SpiReg) (i : Nat) (b : Bool) :
    (p.setRegBit r i b).enabled = p.enabled := rfl
@[simp] theorem Spi.setRegBit_master (p : Spi) (r : SpiReg) (i : Nat) (b : Bool) :
    (p.setRegBit r i b).master = p.master := rfl
@[simp] theorem Spi.setRegBit_sent (p : Spi) (r : SpiReg) (i : Nat) (b : Bool) :
    (p.setRegBit r i b).sent = p.sent := rfl
@[simp] theorem Spi.reg_setRegBit (p : Spi) (r q : SpiReg) (i : Nat) (b : Bool) :
    (p.setRegBit r i b).reg q = if q = r then setBit (p.reg r) i b else p.reg q := Spi.reg_setReg p r q _
@[simp] theorem Spi.softReset_regs (c : Config) (p : Spi) : (p.softReset c).regs = c.spi.reset := rfl
@[simp] theorem Spi.softReset_tx (c : Config) (p : Spi) : (p.softReset c).tx = [] := rfl
@[simp] theorem Spi.softReset_rx (c : Config) (p : Spi) : (p.softReset c).rx = [] := rfl
@[simp] theorem Spi.softReset_enabled (c : Config) (p : Spi) : (p.softReset c).enabled = p.enabled := rfl
@[simp] theorem Spi.softReset_master (c : Config) (p : Spi) : (p.softReset c).master = p.master := rfl
@[simp] theorem Spi.softReset_sent (c : Config) (p : Spi) : (p.softReset c).sent = p.sent := rfl
@[simp] theorem Spi.reg_softReset (c : Config) (p : Spi) (q : SpiReg) :
    (p.softReset c).reg q = c.spi.reset.get q := rfl
@[simp] theorem Spi.powerOn_regs (c : Config) (p : Spi) : (p.powerOn c).regs = c.spi.reset := rfl
@[simp] theorem Spi.powerOn_tx (c : Config) (p : Spi) : (p.powerOn c).tx = [] := rfl
@[simp] theorem Spi.powerOn_rx (c : Config) (p : Spi) : (p.powerOn c).rx = [] := rfl
@[simp] theorem Spi.powerOn_enabled (c : Config) (p : Spi) : (p.powerOn c).enabled = false := rfl
@[simp] theorem Spi.powerOn_master (c : Config) (p : Spi) : (p.powerOn c).master = false := rfl
@[simp] theorem Spi.powerOn_sent (c : Config) (p : Spi) : (p.powerOn c).sent = p.sent := rfl
@[simp] theorem Spi.reg_powerOn (c : Config) (p : Spi) (q : SpiReg) : (p.powerOn c).reg q = c.spi.reset.get q := rfl

/-- Two SPI instances with the same words, FIFOs, flags and record are equal. -/
theorem Spi.ext_reg {p q : Spi} (hr : ∀ r, p.reg r = q.reg r) (ht : p.tx = q.tx) (hx : p.rx = q.rx)
    (he : p.enabled = q.enabled) (hm : p.master = q.master) (hs : p.sent = q.sent) : p = q := by
  cases p; cases q
  simp only [Spi.mk.injEq]
  exact ⟨SpiRegs.ext_get hr, ht, hx, he, hm, hs⟩

@[simp] theorem Reply.done_value : Reply.done.value = none := rfl
@[simp] theorem Reply.done_error : Reply.done.error = none := rfl
@[simp] theorem Reply.ofValue_value (w : Word) : (Reply.ofValue w).value = some w := rfl
@[simp] theorem Reply.ofValue_error (w : Word) : (Reply.ofValue w).error = none := rfl
@[simp] theorem raiseGuestError_error (k : GuestError) (b : Bool) : (raiseGuestError k b).error = some k := rfl
@[simp] theorem raiseGuestError_read (k : GuestError) : (raiseGuestError k true).value = some 0#32 := rfl
@[simp] theorem raiseGuestError_write (k : GuestError) : (raiseGuestError k false).value = none := rfl
@[simp] theorem State.issueFirst_ops (s : State) (r : Request) : (s.issueFirst r).ops = r :: s.ops := rfl
@[simp] theorem State.issueFirst_cfg (s : State) (r : Request) : (s.issueFirst r).cfg = s.cfg := rfl
@[simp] theorem State.issueFirst_uarts (s : State) (r : Request) : (s.issueFirst r).uarts = s.uarts := rfl
@[simp] theorem State.issueFirst_spis (s : State) (r : Request) : (s.issueFirst r).spis = s.spis := rfl

end Machine

end Sys2Proof
end

