-- ==== Sys2Proof/Laws/Ops.lean ====
section
/-!
SUPPORT. For each shared operation one lemma that says everything it can do; proofs cite these and never unfold the
operation.
-/

namespace Sys2Proof.Machine

/-! ## FIFO primitives (R90 to R93) -/

/-- A push with room appends (R90). -/
theorem fifoPush_room {α : Type} {cap : Nat} {f : List α} (e : α) (h : f.length < cap) :
    fifoPush cap f e = (true, f ++ [e]) := if_pos h

/-- A push on a full FIFO drops the element (R90). -/
theorem fifoPush_full {α : Type} {cap : Nat} {f : List α} (e : α) (h : cap ≤ f.length) :
    fifoPush cap f e = (false, f) := if_neg (by omega)

/-- Everything a push can do (R90). -/
theorem fifoPush_cases {α : Type} (cap : Nat) (f : List α) (e : α) :
    (f.length < cap ∧ fifoPush cap f e = (true, f ++ [e])) ∨ (cap ≤ f.length ∧ fifoPush cap f e = (false, f)) := by
  rcases Nat.lt_or_ge f.length cap with h | h
  · exact .inl ⟨h, fifoPush_room e h⟩
  · exact .inr ⟨h, fifoPush_full e h⟩

/-- A push keeps the bound of R31. -/
theorem fifoPush_length_le {α : Type} {cap : Nat} {f : List α} (e : α) (h : f.length ≤ cap) :
    (fifoPush cap f e).2.length ≤ cap := by
  rcases fifoPush_cases cap f e with ⟨h', eq⟩ | ⟨_, eq⟩ <;> rw [eq]
  · simpa using h'
  · exact h

@[simp] theorem fifoPop_nil {n : Nat} : fifoPop ([] : List (BitVec n)) = (false, 0, []) := rfl
@[simp] theorem fifoPop_cons {n : Nat} (e : BitVec n) (rest : List (BitVec n)) :
    fifoPop (e :: rest) = (true, e, rest) := rfl
@[simp] theorem fifoPeek_nil {n : Nat} : fifoPeek ([] : List (BitVec n)) = (false, 0) := rfl
@[simp] theorem fifoPeek_cons {n : Nat} (e : BitVec n) (rest : List (BitVec n)) :
    fifoPeek (e :: rest) = (true, e) := rfl
@[simp] theorem fifoClear_eq {α : Type} (f : List α) : fifoClear f = [] := rfl

/-- A pop never lengthens the FIFO (R91). -/
theorem fifoPop_length_le {n : Nat} (f : List (BitVec n)) : (fifoPop f).2.2.length ≤ f.length := by
  cases f <;> simp

/-! ## Dispatch to an instance (R95) -/

/-- Putting back the element a list holds at an index changes nothing. -/
theorem set_same {α : Type} {l : List α} {i : Nat} {x : α} (h : l[i]? = some x) : l.set i x = l := by
  obtain ⟨hi, rfl⟩ := List.getElem?_eq_some_iff.mp h
  exact List.set_getElem_self hi

/-- An operation on a UART instance that exists answers the next state its rule gives. -/
theorem onUart_next {inst : Nat} {s : State} {u : Uart} (rule : Uart → Uart × Reply) (h : s.uarts[inst]? = some u) :
    onUart inst rule s = .next { s with uarts := s.uarts.set inst (rule u).1, reply := (rule u).2 } := by
  unfold onUart; rw [h]

/-- Everything an operation on a UART instance can answer. -/
theorem onUart_inv {inst : Nat} {s t : State} {rule : Uart → Uart × Reply} (h : onUart inst rule s = .next t) :
    ∃ u, s.uarts[inst]? = some u
      ∧ t = { s with uarts := s.uarts.set inst (rule u).1, reply := (rule u).2 } := by
  unfold onUart at h
  cases hu : s.uarts[inst]? with
  | none => rw [hu] at h; cases h
  | some u => rw [hu] at h; exact ⟨u, rfl, (Host.Outcome.next.inj h).symm⟩

/-- An operation on a UART instance that does not exist is refused by name. -/
theorem onUart_none {inst : Nat} {s : State} (rule : Uart → Uart × Reply) (h : s.uarts[inst]? = none) :
    onUart inst rule s = .refused (.noSuchInstance .uart inst) := by
  unfold onUart; rw [h]

/-- An operation on an SPI instance that exists answers the next state its rule gives. -/
theorem onSpi_next {inst : Nat} {s : State} {p : Spi} (rule : Spi → Spi × Reply) (h : s.spis[inst]? = some p) :
    onSpi inst rule s = .next { s with spis := s.spis.set inst (rule p).1, reply := (rule p).2 } := by
  unfold onSpi; rw [h]

/-- Everything an operation on an SPI instance can answer. -/
theorem onSpi_inv {inst : Nat} {s t : State} {rule : Spi → Spi × Reply} (h : onSpi inst rule s = .next t) :
    ∃ p, s.spis[inst]? = some p
      ∧ t = { s with spis := s.spis.set inst (rule p).1, reply := (rule p).2 } := by
  unfold onSpi at h
  cases hp : s.spis[inst]? with
  | none => rw [hp] at h; cases h
  | some p => rw [hp] at h; exact ⟨p, rfl, (Host.Outcome.next.inj h).symm⟩

/-- An operation on an SPI instance that does not exist is refused by name. -/
theorem onSpi_none {inst : Nat} {s : State} (rule : Spi → Spi × Reply) (h : s.spis[inst]? = none) :
    onSpi inst rule s = .refused (.noSuchInstance .spi inst) := by
  unfold onSpi; rw [h]

/-- A UART operation whose rule leaves the instance alone changes the reply only. -/
theorem onUart_pure {inst : Nat} {s : State} {u : Uart} {rule : Uart → Uart × Reply} (h : s.uarts[inst]? = some u)
    (hr : (rule u).1 = u) : onUart inst rule s = .next { s with reply := (rule u).2 } := by
  rw [onUart_next rule h, hr, set_same h]

/-- An SPI operation whose rule leaves the instance alone changes the reply only. -/
theorem onSpi_pure {inst : Nat} {s : State} {p : Spi} {rule : Spi → Spi × Reply} (h : s.spis[inst]? = some p)
    (hr : (rule p).1 = p) : onSpi inst rule s = .next { s with reply := (rule p).2 } := by
  rw [onSpi_next rule h, hr, set_same h]

/-- A UART read without side effect answers the truncated result (R45). -/
theorem uartRead_pure {inst : Nat} {s : State} {u : Uart} (size : Size) {rule : Uart → Uart × Word}
    (h : s.uarts[inst]? = some u) (hr : (rule u).1 = u) :
    uartRead inst size rule s = .next { s with reply := Reply.ofValue (truncSize size (rule u).2) } :=
  onUart_pure h hr

/-- An SPI read without side effect answers the truncated result (R45). -/
theorem spiRead_pure {inst : Nat} {s : State} {p : Spi} (size : Size) {rule : Spi → Spi × Word}
    (h : s.spis[inst]? = some p) (hr : (rule p).1 = p) :
    spiRead inst size rule s = .next { s with reply := Reply.ofValue (truncSize size (rule p).2) } :=
  onSpi_pure h hr

/-- A guest error on a UART changes the reply only (R96). -/
theorem uartGuestError_next {inst : Nat} {s : State} {u : Uart} (kind : GuestError) (isRead : Bool)
    (h : s.uarts[inst]? = some u) :
    uartGuestError inst kind isRead s = .next { s with reply := raiseGuestError kind isRead } :=
  onUart_pure h rfl

/-- A guest error on an SPI changes the reply only (R96). -/
theorem spiGuestError_next {inst : Nat} {s : State} {p : Spi} (kind : GuestError) (isRead : Bool)
    (h : s.spis[inst]? = some p) :
    spiGuestError inst kind isRead s = .next { s with reply := raiseGuestError kind isRead } :=
  onSpi_pure h rfl

/-- Replacing the state of one UART instance changes nothing else. -/
theorem onlyUart_set {inst : Nat} {s : State} {u : Uart} (v : Uart) (r : Reply) (h : s.uarts[inst]? = some u) :
    OnlyUart inst v s { s with uarts := s.uarts.set inst v, reply := r } := by
  obtain ⟨hi, -⟩ := List.getElem?_eq_some_iff.mp h
  refine ⟨rfl, rfl, rfl, List.length_set, ?_, fun j hj => ?_⟩
  · exact List.getElem?_set_self hi
  · exact List.getElem?_set_ne (fun e => hj e.symm)

/-- Replacing the state of one SPI instance changes nothing else. -/
theorem onlySpi_set {inst : Nat} {s : State} {p : Spi} (q : Spi) (r : Reply) (h : s.spis[inst]? = some p) :
    OnlySpi inst q s { s with spis := s.spis.set inst q, reply := r } := by
  obtain ⟨hi, -⟩ := List.getElem?_eq_some_iff.mp h
  refine ⟨rfl, rfl, rfl, List.length_set, ?_, fun j hj => ?_⟩
  · exact List.getElem?_set_self hi
  · exact List.getElem?_set_ne (fun e => hj e.symm)

/-! ## Outward calls and the transfer cycle (R231) -/

/-- The word a peer returns (R3, R4). -/
def peerWord (c : Config) (inst : Nat) (sent : List Word) (w : Word) : Word :=
  match peerOf c inst with
  | .loopback => w
  | .external => Config.peerAnswer inst sent

/-- An exchange records the word sent and changes nothing else of the instance (R231). -/
theorem exchange_eq (c : Config) (inst : Nat) (w : Word) (p : Spi) :
    p.exchange c inst w = ({ p with sent := p.sent ++ [w] }, peerWord c inst (p.sent ++ [w]) w) := rfl

@[simp] theorem peerWord_loopback {c : Config} {inst : Nat} (h : peerOf c inst = .loopback) (sent : List Word) (w : Word) :
    peerWord c inst sent w = w := by
  unfold peerWord; rw [h]

/-- Everything a transfer cycle does when a word is queued (R231). -/
theorem transferCycle_spec (c : Config) (inst : Nat) (p : Spi) (e : Word) (rest : List Word) (h : p.tx = e :: rest) :
    (p.transferCycle c inst).tx = rest
      ∧ (p.transferCycle c inst).sent = p.sent ++ [e]
      ∧ (p.transferCycle c inst).rx = (fifoPush c.spi.rxCap p.rx (peerWord c inst (p.sent ++ [e]) e)).2
      ∧ (p.transferCycle c inst).enabled = p.enabled ∧ (p.transferCycle c inst).master = p.master
      ∧ (∀ r, r ≠ .sr → (p.transferCycle c inst).reg r = p.reg r)
      ∧ ∀ j, ((p.transferCycle c inst).reg .sr).getLsbD j
          = (if j = 8 ∨ j = 9 ∨ (j = 10 ∧ rest = []) ∨ (j = 12 ∧ c.spi.rxCap ≤ p.rx.length) then true
            else (p.reg .sr).getLsbD j) := by
  unfold Spi.transferCycle
  simp only [h, fifoPop_cons, exchange_eq]
  rcases fifoPush_cases c.spi.rxCap p.rx (peerWord c inst (p.sent ++ [e]) e) with ⟨hl, eq⟩ | ⟨hl, eq⟩
  all_goals
    have hf : (c.spi.rxCap ≤ p.rx.length) = (fifoPush c.spi.rxCap p.rx (peerWord c inst (p.sent ++ [e]) e)).1.not := by
      rw [eq]; simp; omega
    cases rest <;> simp [eq, hf, getLsbD_setBit] <;> refine ⟨fun r hr => by simp [hr], fun j => ?_⟩ <;>
      by_cases h8 : j = 8 <;> by_cases h9 : j = 9 <;> by_cases h10 : j = 10 <;> by_cases h12 : j = 12 <;>
      first | (subst_vars; simp) | simp [h8, h9, h10, h12]

end Sys2Proof.Machine
end

