-- ==== Sys2Proof/Laws/Exec.lean ====
section
/-!
SUPPORT. The shape every operation has: it acts on the one instance its descriptor names, by a rule that does not look
at the rest of the state (40_common.md rule R95); and what one step can do.
-/

namespace Sys2Proof.Machine

/-- Performing an operation is applying a rule to the instance that its descriptor names, and the rule depends on the
configuration only. -/
theorem exec_acts_on_one_instance (i : Instr) (c : Config) :
    ((i.descriptor c).kind = .uart ∧ ∃ rule : Uart → Uart × Reply, ∀ s : State, s.cfg = c →
      exec i s = onUart (i.descriptor c).inst rule s) ∨
    ((i.descriptor c).kind = .spi ∧ ∃ rule : Spi → Spi × Reply, ∀ s : State, s.cfg = c →
      exec i s = onSpi (i.descriptor c).inst rule s) := by
  cases i <;> first
    | exact .inl ⟨rfl, _, fun s h => by
        simp only [exec, execUartRdVerid, execUartRdParam, execUartWrGlobal, execUartWrData, execUartEvtPor,
          execUartEvtRx, execUartEvtCanacc, h]
        rfl⟩
    | exact .inr ⟨rfl, _, fun s h => by
        simp only [exec, execSpiRdVerid, execSpiRdParam, execSpiWrCr, execSpiWrTdr, execSpiEvtPor, h]
        rfl⟩

/-- Everything a step that answers a next state can have done (R49, R62). -/
theorem step_cases {s t : State} (h : step s = .next t) :
    (s.ops = [] ∧ t = s) ∨
    ∃ r rest i, s.ops = r :: rest ∧ decode s.cfg r = .ok i ∧ exec i { s with ops := rest } = .next t := by
  unfold step State.nextRequest at h
  cases hs : s.ops with
  | nil => rw [hs] at h; exact .inl ⟨rfl, (Host.Outcome.next.inj h).symm⟩
  | cons r rest =>
    rw [hs] at h
    dsimp only at h
    cases hd : decode s.cfg r with
    | error why => rw [hd] at h; cases h
    | ok i => rw [hd] at h; exact .inr ⟨r, rest, i, rfl, hd, h⟩

end Sys2Proof.Machine
end

