-- ==== Sys2Proof/Laws/PerInstr.lean ====
section
/-!
SUPPORT. Made per instruction: the encoder writes, for every operand value, a word `sel` that agrees with the
operation's row of opcode_table.json (30_encoding.md rules R63 to R66).
-/

namespace Sys2Proof.Laws

/-- The size field does not touch the bits a register row fixes. -/
theorem packSel_row (cls : Cls) (z : Option Size) (k : Kind) (off : Off) :
    packSel cls z k off &&& 0xCFFFFFFF#32 = packSel cls (some .b1) k off := by
  unfold packSel
  generalize clsCode cls = a
  generalize sizeCode z = b
  generalize kindCode k = e
  apply BitVec.eq_of_getLsbD_eq
  intro i hi
  interval_cases i <;> simp [sizeCode]

/-- Neither the size nor the offset touches the bits an UNKNOWN or INVALID row fixes. -/
theorem packSel_wide (cls : Cls) (z : Option Size) (k : Kind) (off : Off) :
    packSel cls z k off &&& 0xCF000000#32 = packSel cls (some .b1) k 0#24 := by
  unfold packSel
  generalize clsCode cls = a
  generalize sizeCode z = b
  generalize kindCode k = e
  apply BitVec.eq_of_getLsbD_eq
  intro i hi
  interval_cases i <;> simp [sizeCode]

/-- The columns `mask` and `match` of an operation's row of opcode_table.json. -/
def row : Instr → Word × Word
  | .uartRdVerid _ _ => (0xCFFFFFFF#32, 0x00000000#32)
  | .uartRdParam _ _ => (0xCFFFFFFF#32, 0x00000004#32)
  | .uartRdGlobal _ _ => (0xCFFFFFFF#32, 0x00000008#32)
  | .uartRdPincfg _ _ => (0xCFFFFFFF#32, 0x0000000C#32)
  | .uartRdBaud _ _ => (0xCFFFFFFF#32, 0x00000010#32)
  | .uartRdStat _ _ => (0xCFFFFFFF#32, 0x00000014#32)
  | .uartRdCtrl _ _ => (0xCFFFFFFF#32, 0x00000018#32)
  | .uartRdData _ _ => (0xCFFFFFFF#32, 0x0000001C#32)
  | .uartRdMatch _ _ => (0xCFFFFFFF#32, 0x00000020#32)
  | .uartRdModir _ _ => (0xCFFFFFFF#32, 0x00000024#32)
  | .uartRdFifo _ _ => (0xCFFFFFFF#32, 0x00000028#32)
  | .uartRdWater _ _ => (0xCFFFFFFF#32, 0x0000002C#32)
  | .uartRdDataro _ _ => (0xCFFFFFFF#32, 0x00000030#32)
  | .uartRdMcr _ _ => (0xCFFFFFFF#32, 0x00000040#32)
  | .uartRdMsr _ _ => (0xCFFFFFFF#32, 0x00000044#32)
  | .uartRdReir _ _ => (0xCFFFFFFF#32, 0x00000048#32)
  | .uartRdTeir _ _ => (0xCFFFFFFF#32, 0x0000004C#32)
  | .uartRdHdcr _ _ => (0xCFFFFFFF#32, 0x00000050#32)
  | .uartRdTocr _ _ => (0xCFFFFFFF#32, 0x00000058#32)
  | .uartRdTosr _ _ => (0xCFFFFFFF#32, 0x0000005C#32)
  | .uartRdUnknown _ _ _ => (0xCF000000#32, 0x00000000#32)
  | .uartRdInvalid _ _ _ => (0xCF000000#32, 0x00000000#32)
  | .uartWrVerid _ _ _ => (0xCFFFFFFF#32, 0x40000000#32)
  | .uartWrParam _ _ _ => (0xCFFFFFFF#32, 0x40000004#32)
  | .uartWrGlobal _ _ _ => (0xCFFFFFFF#32, 0x40000008#32)
  | .uartWrPincfg _ _ _ => (0xCFFFFFFF#32, 0x4000000C#32)
  | .uartWrBaud _ _ _ => (0xCFFFFFFF#32, 0x40000010#32)
  | .uartWrStat _ _ _ => (0xCFFFFFFF#32, 0x40000014#32)
  | .uartWrCtrl _ _ _ => (0xCFFFFFFF#32, 0x40000018#32)
  | .uartWrData _ _ _ => (0xCFFFFFFF#32, 0x4000001C#32)
  | .uartWrMatch _ _ _ => (0xCFFFFFFF#32, 0x40000020#32)
  | .uartWrModir _ _ _ => (0xCFFFFFFF#32, 0x40000024#32)
  | .uartWrFifo _ _ _ => (0xCFFFFFFF#32, 0x40000028#32)
  | .uartWrWater _ _ _ => (0xCFFFFFFF#32, 0x4000002C#32)
  | .uartWrDataro _ _ _ => (0xCFFFFFFF#32, 0x40000030#32)
  | .uartWrMcr _ _ _ => (0xCFFFFFFF#32, 0x40000040#32)
  | .uartWrMsr _ _ _ => (0xCFFFFFFF#32, 0x40000044#32)
  | .uartWrReir _ _ _ => (0xCFFFFFFF#32, 0x40000048#32)
  | .uartWrTeir _ _ _ => (0xCFFFFFFF#32, 0x4000004C#32)
  | .uartWrHdcr _ _ _ => (0xCFFFFFFF#32, 0x40000050#32)
  | .uartWrTocr _ _ _ => (0xCFFFFFFF#32, 0x40000058#32)
  | .uartWrTosr _ _ _ => (0xCFFFFFFF#32, 0x4000005C#32)
  | .uartWrUnknown _ _ _ _ => (0xCF000000#32, 0x40000000#32)
  | .uartWrInvalid _ _ _ _ => (0xCF000000#32, 0x40000000#32)
  | .spiRdVerid _ _ => (0xCFFFFFFF#32, 0x01000000#32)
  | .spiRdParam _ _ => (0xCFFFFFFF#32, 0x01000004#32)
  | .spiRdCr _ _ => (0xCFFFFFFF#32, 0x01000010#32)
  | .spiRdSr _ _ => (0xCFFFFFFF#32, 0x01000014#32)
  | .spiRdIer _ _ => (0xCFFFFFFF#32, 0x01000018#32)
  | .spiRdDer _ _ => (0xCFFFFFFF#32, 0x0100001C#32)
  | .spiRdCfgr0 _ _ => (0xCFFFFFFF#32, 0x01000020#32)
  | .spiRdCfgr1 _ _ => (0xCFFFFFFF#32, 0x01000024#32)
  | .spiRdDmr0 _ _ => (0xCFFFFFFF#32, 0x01000030#32)
  | .spiRdDmr1 _ _ => (0xCFFFFFFF#32, 0x01000034#32)
  | .spiRdCcr _ _ => (0xCFFFFFFF#32, 0x01000040#32)
  | .spiRdCcr1 _ _ => (0xCFFFFFFF#32, 0x01000044#32)
  | .spiRdFcr _ _ => (0xCFFFFFFF#32, 0x01000058#32)
  | .spiRdFsr _ _ => (0xCFFFFFFF#32, 0x0100005C#32)
  | .spiRdTcr _ _ => (0xCFFFFFFF#32, 0x01000060#32)
  | .spiRdTdr _ _ => (0xCFFFFFFF#32, 0x01000064#32)
  | .spiRdRsr _ _ => (0xCFFFFFFF#32, 0x01000070#32)
  | .spiRdRdr _ _ => (0xCFFFFFFF#32, 0x01000074#32)
  | .spiRdRdror _ _ => (0xCFFFFFFF#32, 0x01000078#32)
  | .spiRdUnknown _ _ _ => (0xCF000000#32, 0x01000000#32)
  | .spiRdInvalid _ _ _ => (0xCF000000#32, 0x01000000#32)
  | .spiWrVerid _ _ _ => (0xCFFFFFFF#32, 0x41000000#32)
  | .spiWrParam _ _ _ => (0xCFFFFFFF#32, 0x41000004#32)
  | .spiWrCr _ _ _ => (0xCFFFFFFF#32, 0x41000010#32)
  | .spiWrSr _ _ _ => (0xCFFFFFFF#32, 0x41000014#32)
  | .spiWrIer _ _ _ => (0xCFFFFFFF#32, 0x41000018#32)
  | .spiWrDer _ _ _ => (0xCFFFFFFF#32, 0x4100001C#32)
  | .spiWrCfgr0 _ _ _ => (0xCFFFFFFF#32, 0x41000020#32)
  | .spiWrCfgr1 _ _ _ => (0xCFFFFFFF#32, 0x41000024#32)
  | .spiWrDmr0 _ _ _ => (0xCFFFFFFF#32, 0x41000030#32)
  | .spiWrDmr1 _ _ _ => (0xCFFFFFFF#32, 0x41000034#32)
  | .spiWrCcr _ _ _ => (0xCFFFFFFF#32, 0x41000040#32)
  | .spiWrCcr1 _ _ _ => (0xCFFFFFFF#32, 0x41000044#32)
  | .spiWrFcr _ _ _ => (0xCFFFFFFF#32, 0x41000058#32)
  | .spiWrFsr _ _ _ => (0xCFFFFFFF#32, 0x4100005C#32)
  | .spiWrTcr _ _ _ => (0xCFFFFFFF#32, 0x41000060#32)
  | .spiWrTdr _ _ _ => (0xCFFFFFFF#32, 0x41000064#32)
  | .spiWrRsr _ _ _ => (0xCFFFFFFF#32, 0x41000070#32)
  | .spiWrRdr _ _ _ => (0xCFFFFFFF#32, 0x41000074#32)
  | .spiWrRdror _ _ _ => (0xCFFFFFFF#32, 0x41000078#32)
  | .spiWrUnknown _ _ _ _ => (0xCF000000#32, 0x41000000#32)
  | .spiWrInvalid _ _ _ _ => (0xCF000000#32, 0x41000000#32)
  | .uartEvtPor _ => (0xFFFFFFFF#32, 0x80000000#32)
  | .uartEvtRx _ _ => (0xFFFFFFFF#32, 0x80000001#32)
  | .uartEvtCanacc _ => (0xFFFFFFFF#32, 0x80000002#32)
  | .spiEvtPor _ => (0xFFFFFFFF#32, 0x81000000#32)

namespace EncodeMatchesTable

/-- Under a configuration that puts RDROR where the table has it, the encoding of `i` has the bits its row fixes. -/
def Statement (i : Instr) : Prop :=
  ∀ c : Config, c.spi.rdrorOffset = 0x78#24 → (encode c i).sel &&& (row i).1 = (row i).2

theorem uartRdVerid (inst : Nat) (size : Size) : Statement (.uartRdVerid inst size) :=
  fun _ _ =>
    (packSel_row .rd (some size) .uart 0x00#24).trans (show packSel .rd (some .b1) .uart 0x00#24 = 0x00000000#32 by decide)

theorem uartRdParam (inst : Nat) (size : Size) : Statement (.uartRdParam inst size) :=
  fun _ _ =>
    (packSel_row .rd (some size) .uart 0x04#24).trans (show packSel .rd (some .b1) .uart 0x04#24 = 0x00000004#32 by decide)

theorem uartRdGlobal (inst : Nat) (size : Size) : Statement (.uartRdGlobal inst size) :=
  fun _ _ =>
    (packSel_row .rd (some size) .uart 0x08#24).trans (show packSel .rd (some .b1) .uart 0x08#24 = 0x00000008#32 by decide)

theorem uartRdPincfg (inst : Nat) (size : Size) : Statement (.uartRdPincfg inst size) :=
  fun _ _ =>
    (packSel_row .rd (some size) .uart 0x0C#24).trans (show packSel .rd (some .b1) .uart 0x0C#24 = 0x0000000C#32 by decide)

theorem uartRdBaud (inst : Nat) (size : Size) : Statement (.uartRdBaud inst size) :=
  fun _ _ =>
    (packSel_row .rd (some size) .uart 0x10#24).trans (show packSel .rd (some .b1) .uart 0x10#24 = 0x00000010#32 by decide)

theorem uartRdStat (inst : Nat) (size : Size) : Statement (.uartRdStat inst size) :=
  fun _ _ =>
    (packSel_row .rd (some size) .uart 0x14#24).trans (show packSel .rd (some .b1) .uart 0x14#24 = 0x00000014#32 by decide)

theorem uartRdCtrl (inst : Nat) (size : Size) : Statement (.uartRdCtrl inst size) :=
  fun _ _ =>
    (packSel_row .rd (some size) .uart 0x18#24).trans (show packSel .rd (some .b1) .uart 0x18#24 = 0x00000018#32 by decide)

theorem uartRdData (inst : Nat) (size : Size) : Statement (.uartRdData inst size) :=
  fun _ _ =>
    (packSel_row .rd (some size) .uart 0x1C#24).trans (show packSel .rd (some .b1) .uart 0x1C#24 = 0x0000001C#32 by decide)

theorem uartRdMatch (inst : Nat) (size : Size) : Statement (.uartRdMatch inst size) :=
  fun _ _ =>
    (packSel_row .rd (some size) .uart 0x20#24).trans (show packSel .rd (some .b1) .uart 0x20#24 = 0x00000020#32 by decide)

theorem uartRdModir (inst : Nat) (size : Size) : Statement (.uartRdModir inst size) :=
  fun _ _ =>
    (packSel_row .rd (some size) .uart 0x24#24).trans (show packSel .rd (some .b1) .uart 0x24#24 = 0x00000024#32 by decide)

theorem uartRdFifo (inst : Nat) (size : Size) : Statement (.uartRdFifo inst size) :=
  fun _ _ =>
    (packSel_row .rd (some size) .uart 0x28#24).trans (show packSel .rd (some .b1) .uart 0x28#24 = 0x00000028#32 by decide)

theorem uartRdWater (inst : Nat) (size : Size) : Statement (.uartRdWater inst size) :=
  fun _ _ =>
    (packSel_row .rd (some size) .uart 0x2C#24).trans (show packSel .rd (some .b1) .uart 0x2C#24 = 0x0000002C#32 by decide)

theorem uartRdDataro (inst : Nat) (size : Size) : Statement (.uartRdDataro inst size) :=
  fun _ _ =>
    (packSel_row .rd (some size) .uart 0x30#24).trans (show packSel .rd (some .b1) .uart 0x30#24 = 0x00000030#32 by decide)

theorem uartRdMcr (inst : Nat) (size : Size) : Statement (.uartRdMcr inst size) :=
  fun _ _ =>
    (packSel_row .rd (some size) .uart 0x40#24).trans (show packSel .rd (some .b1) .uart 0x40#24 = 0x00000040#32 by decide)

theorem uartRdMsr (inst : Nat) (size : Size) : Statement (.uartRdMsr inst size) :=
  fun _ _ =>
    (packSel_row .rd (some size) .uart 0x44#24).trans (show packSel .rd (some .b1) .uart 0x44#24 = 0x00000044#32 by decide)

theorem uartRdReir (inst : Nat) (size : Size) : Statement (.uartRdReir inst size) :=
  fun _ _ =>
    (packSel_row .rd (some size) .uart 0x48#24).trans (show packSel .rd (some .b1) .uart 0x48#24 = 0x00000048#32 by decide)

theorem uartRdTeir (inst : Nat) (size : Size) : Statement (.uartRdTeir inst size) :=
  fun _ _ =>
    (packSel_row .rd (some size) .uart 0x4C#24).trans (show packSel .rd (some .b1) .uart 0x4C#24 = 0x0000004C#32 by decide)

theorem uartRdHdcr (inst : Nat) (size : Size) : Statement (.uartRdHdcr inst size) :=
  fun _ _ =>
    (packSel_row .rd (some size) .uart 0x50#24).trans (show packSel .rd (some .b1) .uart 0x50#24 = 0x00000050#32 by decide)

theorem uartRdTocr (inst : Nat) (size : Size) : Statement (.uartRdTocr inst size) :=
  fun _ _ =>
    (packSel_row .rd (some size) .uart 0x58#24).trans (show packSel .rd (some .b1) .uart 0x58#24 = 0x00000058#32 by decide)

theorem uartRdTosr (inst : Nat) (size : Size) : Statement (.uartRdTosr inst size) :=
  fun _ _ =>
    (packSel_row .rd (some size) .uart 0x5C#24).trans (show packSel .rd (some .b1) .uart 0x5C#24 = 0x0000005C#32 by decide)

theorem uartRdUnknown (inst : Nat) (size : Size) (off : Off) : Statement (.uartRdUnknown inst size off) :=
  fun _ _ =>
    (packSel_wide .rd (some size) .uart off).trans (show packSel .rd (some .b1) .uart 0#24 = 0x00000000#32 by decide)

theorem uartRdInvalid (inst : Nat) (size : Option Size) (off : Off) : Statement (.uartRdInvalid inst size off) :=
  fun _ _ =>
    (packSel_wide .rd size .uart off).trans (show packSel .rd (some .b1) .uart 0#24 = 0x00000000#32 by decide)

theorem uartWrVerid (inst : Nat) (size : Size) (val : Word) : Statement (.uartWrVerid inst size val) :=
  fun _ _ =>
    (packSel_row .wr (some size) .uart 0x00#24).trans (show packSel .wr (some .b1) .uart 0x00#24 = 0x40000000#32 by decide)

theorem uartWrParam (inst : Nat) (size : Size) (val : Word) : Statement (.uartWrParam inst size val) :=
  fun _ _ =>
    (packSel_row .wr (some size) .uart 0x04#24).trans (show packSel .wr (some .b1) .uart 0x04#24 = 0x40000004#32 by decide)

theorem uartWrGlobal (inst : Nat) (size : Size) (val : Word) : Statement (.uartWrGlobal inst size val) :=
  fun _ _ =>
    (packSel_row .wr (some size) .uart 0x08#24).trans (show packSel .wr (some .b1) .uart 0x08#24 = 0x40000008#32 by decide)

theorem uartWrPincfg (inst : Nat) (size : Size) (val : Word) : Statement (.uartWrPincfg inst size val) :=
  fun _ _ =>
    (packSel_row .wr (some size) .uart 0x0C#24).trans (show packSel .wr (some .b1) .uart 0x0C#24 = 0x4000000C#32 by decide)

theorem uartWrBaud (inst : Nat) (size : Size) (val : Word) : Statement (.uartWrBaud inst size val) :=
  fun _ _ =>
    (packSel_row .wr (some size) .uart 0x10#24).trans (show packSel .wr (some .b1) .uart 0x10#24 = 0x40000010#32 by decide)

theorem uartWrStat (inst : Nat) (size : Size) (val : Word) : Statement (.uartWrStat inst size val) :=
  fun _ _ =>
    (packSel_row .wr (some size) .uart 0x14#24).trans (show packSel .wr (some .b1) .uart 0x14#24 = 0x40000014#32 by decide)

theorem uartWrCtrl (inst : Nat) (size : Size) (val : Word) : Statement (.uartWrCtrl inst size val) :=
  fun _ _ =>
    (packSel_row .wr (some size) .uart 0x18#24).trans (show packSel .wr (some .b1) .uart 0x18#24 = 0x40000018#32 by decide)

theorem uartWrData (inst : Nat) (size : Size) (val : Word) : Statement (.uartWrData inst size val) :=
  fun _ _ =>
    (packSel_row .wr (some size) .uart 0x1C#24).trans (show packSel .wr (some .b1) .uart 0x1C#24 = 0x4000001C#32 by decide)

theorem uartWrMatch (inst : Nat) (size : Size) (val : Word) : Statement (.uartWrMatch inst size val) :=
  fun _ _ =>
    (packSel_row .wr (some size) .uart 0x20#24).trans (show packSel .wr (some .b1) .uart 0x20#24 = 0x40000020#32 by decide)

theorem uartWrModir (inst : Nat) (size : Size) (val : Word) : Statement (.uartWrModir inst size val) :=
  fun _ _ =>
    (packSel_row .wr (some size) .uart 0x24#24).trans (show packSel .wr (some .b1) .uart 0x24#24 = 0x40000024#32 by decide)

theorem uartWrFifo (inst : Nat) (size : Size) (val : Word) : Statement (.uartWrFifo inst size val) :=
  fun _ _ =>
    (packSel_row .wr (some size) .uart 0x28#24).trans (show packSel .wr (some .b1) .uart 0x28#24 = 0x40000028#32 by decide)

theorem uartWrWater (inst : Nat) (size : Size) (val : Word) : Statement (.uartWrWater inst size val) :=
  fun _ _ =>
    (packSel_row .wr (some size) .uart 0x2C#24).trans (show packSel .wr (some .b1) .uart 0x2C#24 = 0x4000002C#32 by decide)

theorem uartWrDataro (inst : Nat) (size : Size) (val : Word) : Statement (.uartWrDataro inst size val) :=
  fun _ _ =>
    (packSel_row .wr (some size) .uart 0x30#24).trans (show packSel .wr (some .b1) .uart 0x30#24 = 0x40000030#32 by decide)

theorem uartWrMcr (inst : Nat) (size : Size) (val : Word) : Statement (.uartWrMcr inst size val) :=
  fun _ _ =>
    (packSel_row .wr (some size) .uart 0x40#24).trans (show packSel .wr (some .b1) .uart 0x40#24 = 0x40000040#32 by decide)

theorem uartWrMsr (inst : Nat) (size : Size) (val : Word) : Statement (.uartWrMsr inst size val) :=
  fun _ _ =>
    (packSel_row .wr (some size) .uart 0x44#24).trans (show packSel .wr (some .b1) .uart 0x44#24 = 0x40000044#32 by decide)

theorem uartWrReir (inst : Nat) (size : Size) (val : Word) : Statement (.uartWrReir inst size val) :=
  fun _ _ =>
    (packSel_row .wr (some size) .uart 0x48#24).trans (show packSel .wr (some .b1) .uart 0x48#24 = 0x40000048#32 by decide)

theorem uartWrTeir (inst : Nat) (size : Size) (val : Word) : Statement (.uartWrTeir inst size val) :=
  fun _ _ =>
    (packSel_row .wr (some size) .uart 0x4C#24).trans (show packSel .wr (some .b1) .uart 0x4C#24 = 0x4000004C#32 by decide)

theorem uartWrHdcr (inst : Nat) (size : Size) (val : Word) : Statement (.uartWrHdcr inst size val) :=
  fun _ _ =>
    (packSel_row .wr (some size) .uart 0x50#24).trans (show packSel .wr (some .b1) .uart 0x50#24 = 0x40000050#32 by decide)

theorem uartWrTocr (inst : Nat) (size : Size) (val : Word) : Statement (.uartWrTocr inst size val) :=
  fun _ _ =>
    (packSel_row .wr (some size) .uart 0x58#24).trans (show packSel .wr (some .b1) .uart 0x58#24 = 0x40000058#32 by decide)

theorem uartWrTosr (inst : Nat) (size : Size) (val : Word) : Statement (.uartWrTosr inst size val) :=
  fun _ _ =>
    (packSel_row .wr (some size) .uart 0x5C#24).trans (show packSel .wr (some .b1) .uart 0x5C#24 = 0x4000005C#32 by decide)

theorem uartWrUnknown (inst : Nat) (size : Size) (off : Off) (val : Word) : Statement (.uartWrUnknown inst size off val) :=
  fun _ _ =>
    (packSel_wide .wr (some size) .uart off).trans (show packSel .wr (some .b1) .uart 0#24 = 0x40000000#32 by decide)

theorem uartWrInvalid (inst : Nat) (size : Option Size) (off : Off) (val : Word) : Statement (.uartWrInvalid inst size off val) :=
  fun _ _ =>
    (packSel_wide .wr size .uart off).trans (show packSel .wr (some .b1) .uart 0#24 = 0x40000000#32 by decide)

theorem spiRdVerid (inst : Nat) (size : Size) : Statement (.spiRdVerid inst size) :=
  fun _ _ =>
    (packSel_row .rd (some size) .spi 0x00#24).trans (show packSel .rd (some .b1) .spi 0x00#24 = 0x01000000#32 by decide)

theorem spiRdParam (inst : Nat) (size : Size) : Statement (.spiRdParam inst size) :=
  fun _ _ =>
    (packSel_row .rd (some size) .spi 0x04#24).trans (show packSel .rd (some .b1) .spi 0x04#24 = 0x01000004#32 by decide)

theorem spiRdCr (inst : Nat) (size : Size) : Statement (.spiRdCr inst size) :=
  fun _ _ =>
    (packSel_row .rd (some size) .spi 0x10#24).trans (show packSel .rd (some .b1) .spi 0x10#24 = 0x01000010#32 by decide)

theorem spiRdSr (inst : Nat) (size : Size) : Statement (.spiRdSr inst size) :=
  fun _ _ =>
    (packSel_row .rd (some size) .spi 0x14#24).trans (show packSel .rd (some .b1) .spi 0x14#24 = 0x01000014#32 by decide)

theorem spiRdIer (inst : Nat) (size : Size) : Statement (.spiRdIer inst size) :=
  fun _ _ =>
    (packSel_row .rd (some size) .spi 0x18#24).trans (show packSel .rd (some .b1) .spi 0x18#24 = 0x01000018#32 by decide)

theorem spiRdDer (inst : Nat) (size : Size) : Statement (.spiRdDer inst size) :=
  fun _ _ =>
    (packSel_row .rd (some size) .spi 0x1C#24).trans (show packSel .rd (some .b1) .spi 0x1C#24 = 0x0100001C#32 by decide)

theorem spiRdCfgr0 (inst : Nat) (size : Size) : Statement (.spiRdCfgr0 inst size) :=
  fun _ _ =>
    (packSel_row .rd (some size) .spi 0x20#24).trans (show packSel .rd (some .b1) .spi 0x20#24 = 0x01000020#32 by decide)

theorem spiRdCfgr1 (inst : Nat) (size : Size) : Statement (.spiRdCfgr1 inst size) :=
  fun _ _ =>
    (packSel_row .rd (some size) .spi 0x24#24).trans (show packSel .rd (some .b1) .spi 0x24#24 = 0x01000024#32 by decide)

theorem spiRdDmr0 (inst : Nat) (size : Size) : Statement (.spiRdDmr0 inst size) :=
  fun _ _ =>
    (packSel_row .rd (some size) .spi 0x30#24).trans (show packSel .rd (some .b1) .spi 0x30#24 = 0x01000030#32 by decide)

theorem spiRdDmr1 (inst : Nat) (size : Size) : Statement (.spiRdDmr1 inst size) :=
  fun _ _ =>
    (packSel_row .rd (some size) .spi 0x34#24).trans (show packSel .rd (some .b1) .spi 0x34#24 = 0x01000034#32 by decide)

theorem spiRdCcr (inst : Nat) (size : Size) : Statement (.spiRdCcr inst size) :=
  fun _ _ =>
    (packSel_row .rd (some size) .spi 0x40#24).trans (show packSel .rd (some .b1) .spi 0x40#24 = 0x01000040#32 by decide)

theorem spiRdCcr1 (inst : Nat) (size : Size) : Statement (.spiRdCcr1 inst size) :=
  fun _ _ =>
    (packSel_row .rd (some size) .spi 0x44#24).trans (show packSel .rd (some .b1) .spi 0x44#24 = 0x01000044#32 by decide)

theorem spiRdFcr (inst : Nat) (size : Size) : Statement (.spiRdFcr inst size) :=
  fun _ _ =>
    (packSel_row .rd (some size) .spi 0x58#24).trans (show packSel .rd (some .b1) .spi 0x58#24 = 0x01000058#32 by decide)

theorem spiRdFsr (inst : Nat) (size : Size) : Statement (.spiRdFsr inst size) :=
  fun _ _ =>
    (packSel_row .rd (some size) .spi 0x5C#24).trans (show packSel .rd (some .b1) .spi 0x5C#24 = 0x0100005C#32 by decide)

theorem spiRdTcr (inst : Nat) (size : Size) : Statement (.spiRdTcr inst size) :=
  fun _ _ =>
    (packSel_row .rd (some size) .spi 0x60#24).trans (show packSel .rd (some .b1) .spi 0x60#24 = 0x01000060#32 by decide)

theorem spiRdTdr (inst : Nat) (size : Size) : Statement (.spiRdTdr inst size) :=
  fun _ _ =>
    (packSel_row .rd (some size) .spi 0x64#24).trans (show packSel .rd (some .b1) .spi 0x64#24 = 0x01000064#32 by decide)

theorem spiRdRsr (inst : Nat) (size : Size) : Statement (.spiRdRsr inst size) :=
  fun _ _ =>
    (packSel_row .rd (some size) .spi 0x70#24).trans (show packSel .rd (some .b1) .spi 0x70#24 = 0x01000070#32 by decide)

theorem spiRdRdr (inst : Nat) (size : Size) : Statement (.spiRdRdr inst size) :=
  fun _ _ =>
    (packSel_row .rd (some size) .spi 0x74#24).trans (show packSel .rd (some .b1) .spi 0x74#24 = 0x01000074#32 by decide)

theorem spiRdRdror (inst : Nat) (size : Size) : Statement (.spiRdRdror inst size) :=
  fun c h => by
    show packSel .rd (some size) .spi c.spi.rdrorOffset &&& _ = _
    rw [h]
    exact (packSel_row .rd (some size) .spi 0x78#24).trans
      (show packSel .rd (some .b1) .spi 0x78#24 = 0x01000078#32 by decide)

theorem spiRdUnknown (inst : Nat) (size : Size) (off : Off) : Statement (.spiRdUnknown inst size off) :=
  fun _ _ =>
    (packSel_wide .rd (some size) .spi off).trans (show packSel .rd (some .b1) .spi 0#24 = 0x01000000#32 by decide)

theorem spiRdInvalid (inst : Nat) (size : Option Size) (off : Off) : Statement (.spiRdInvalid inst size off) :=
  fun _ _ =>
    (packSel_wide .rd size .spi off).trans (show packSel .rd (some .b1) .spi 0#24 = 0x01000000#32 by decide)

theorem spiWrVerid (inst : Nat) (size : Size) (val : Word) : Statement (.spiWrVerid inst size val) :=
  fun _ _ =>
    (packSel_row .wr (some size) .spi 0x00#24).trans (show packSel .wr (some .b1) .spi 0x00#24 = 0x41000000#32 by decide)

theorem spiWrParam (inst : Nat) (size : Size) (val : Word) : Statement (.spiWrParam inst size val) :=
  fun _ _ =>
    (packSel_row .wr (some size) .spi 0x04#24).trans (show packSel .wr (some .b1) .spi 0x04#24 = 0x41000004#32 by decide)

theorem spiWrCr (inst : Nat) (size : Size) (val : Word) : Statement (.spiWrCr inst size val) :=
  fun _ _ =>
    (packSel_row .wr (some size) .spi 0x10#24).trans (show packSel .wr (some .b1) .spi 0x10#24 = 0x41000010#32 by decide)

theorem spiWrSr (inst : Nat) (size : Size) (val : Word) : Statement (.spiWrSr inst size val) :=
  fun _ _ =>
    (packSel_row .wr (some size) .spi 0x14#24).trans (show packSel .wr (some .b1) .spi 0x14#24 = 0x41000014#32 by decide)

theorem spiWrIer (inst : Nat) (size : Size) (val : Word) : Statement (.spiWrIer inst size val) :=
  fun _ _ =>
    (packSel_row .wr (some size) .spi 0x18#24).trans (show packSel .wr (some .b1) .spi 0x18#24 = 0x41000018#32 by decide)

theorem spiWrDer (inst : Nat) (size : Size) (val : Word) : Statement (.spiWrDer inst size val) :=
  fun _ _ =>
    (packSel_row .wr (some size) .spi 0x1C#24).trans (show packSel .wr (some .b1) .spi 0x1C#24 = 0x4100001C#32 by decide)

theorem spiWrCfgr0 (inst : Nat) (size : Size) (val : Word) : Statement (.spiWrCfgr0 inst size val) :=
  fun _ _ =>
    (packSel_row .wr (some size) .spi 0x20#24).trans (show packSel .wr (some .b1) .spi 0x20#24 = 0x41000020#32 by decide)

theorem spiWrCfgr1 (inst : Nat) (size : Size) (val : Word) : Statement (.spiWrCfgr1 inst size val) :=
  fun _ _ =>
    (packSel_row .wr (some size) .spi 0x24#24).trans (show packSel .wr (some .b1) .spi 0x24#24 = 0x41000024#32 by decide)

theorem spiWrDmr0 (inst : Nat) (size : Size) (val : Word) : Statement (.spiWrDmr0 inst size val) :=
  fun _ _ =>
    (packSel_row .wr (some size) .spi 0x30#24).trans (show packSel .wr (some .b1) .spi 0x30#24 = 0x41000030#32 by decide)

theorem spiWrDmr1 (inst : Nat) (size : Size) (val : Word) : Statement (.spiWrDmr1 inst size val) :=
  fun _ _ =>
    (packSel_row .wr (some size) .spi 0x34#24).trans (show packSel .wr (some .b1) .spi 0x34#24 = 0x41000034#32 by decide)

theorem spiWrCcr (inst : Nat) (size : Size) (val : Word) : Statement (.spiWrCcr inst size val) :=
  fun _ _ =>
    (packSel_row .wr (some size) .spi 0x40#24).trans (show packSel .wr (some .b1) .spi 0x40#24 = 0x41000040#32 by decide)

theorem spiWrCcr1 (inst : Nat) (size : Size) (val : Word) : Statement (.spiWrCcr1 inst size val) :=
  fun _ _ =>
    (packSel_row .wr (some size) .spi 0x44#24).trans (show packSel .wr (some .b1) .spi 0x44#24 = 0x41000044#32 by decide)

theorem spiWrFcr (inst : Nat) (size : Size) (val : Word) : Statement (.spiWrFcr inst size val) :=
  fun _ _ =>
    (packSel_row .wr (some size) .spi 0x58#24).trans (show packSel .wr (some .b1) .spi 0x58#24 = 0x41000058#32 by decide)

theorem spiWrFsr (inst : Nat) (size : Size) (val : Word) : Statement (.spiWrFsr inst size val) :=
  fun _ _ =>
    (packSel_row .wr (some size) .spi 0x5C#24).trans (show packSel .wr (some .b1) .spi 0x5C#24 = 0x4100005C#32 by decide)

theorem spiWrTcr (inst : Nat) (size : Size) (val : Word) : Statement (.spiWrTcr inst size val) :=
  fun _ _ =>
    (packSel_row .wr (some size) .spi 0x60#24).trans (show packSel .wr (some .b1) .spi 0x60#24 = 0x41000060#32 by decide)

theorem spiWrTdr (inst : Nat) (size : Size) (val : Word) : Statement (.spiWrTdr inst size val) :=
  fun _ _ =>
    (packSel_row .wr (some size) .spi 0x64#24).trans (show packSel .wr (some .b1) .spi 0x64#24 = 0x41000064#32 by decide)

theorem spiWrRsr (inst : Nat) (size : Size) (val : Word) : Statement (.spiWrRsr inst size val) :=
  fun _ _ =>
    (packSel_row .wr (some size) .spi 0x70#24).trans (show packSel .wr (some .b1) .spi 0x70#24 = 0x41000070#32 by decide)

theorem spiWrRdr (inst : Nat) (size : Size) (val : Word) : Statement (.spiWrRdr inst size val) :=
  fun _ _ =>
    (packSel_row .wr (some size) .spi 0x74#24).trans (show packSel .wr (some .b1) .spi 0x74#24 = 0x41000074#32 by decide)

theorem spiWrRdror (inst : Nat) (size : Size) (val : Word) : Statement (.spiWrRdror inst size val) :=
  fun c h => by
    show packSel .wr (some size) .spi c.spi.rdrorOffset &&& _ = _
    rw [h]
    exact (packSel_row .wr (some size) .spi 0x78#24).trans
      (show packSel .wr (some .b1) .spi 0x78#24 = 0x41000078#32 by decide)

theorem spiWrUnknown (inst : Nat) (size : Size) (off : Off) (val : Word) : Statement (.spiWrUnknown inst size off val) :=
  fun _ _ =>
    (packSel_wide .wr (some size) .spi off).trans (show packSel .wr (some .b1) .spi 0#24 = 0x41000000#32 by decide)

theorem spiWrInvalid (inst : Nat) (size : Option Size) (off : Off) (val : Word) : Statement (.spiWrInvalid inst size off val) :=
  fun _ _ =>
    (packSel_wide .wr size .spi off).trans (show packSel .wr (some .b1) .spi 0#24 = 0x41000000#32 by decide)

theorem uartEvtPor (inst : Nat) : Statement (.uartEvtPor inst) :=
  fun _ _ =>
    (show packSel .evt (some .b1) .uart 0#24 &&& 0xFFFFFFFF#32 = 0x80000000#32 by decide)

theorem uartEvtRx (inst : Nat) (b : Byte) : Statement (.uartEvtRx inst b) :=
  fun _ _ =>
    (show packSel .evt (some .b1) .uart 1#24 &&& 0xFFFFFFFF#32 = 0x80000001#32 by decide)

theorem uartEvtCanacc (inst : Nat) : Statement (.uartEvtCanacc inst) :=
  fun _ _ =>
    (show packSel .evt (some .b1) .uart 2#24 &&& 0xFFFFFFFF#32 = 0x80000002#32 by decide)

theorem spiEvtPor (inst : Nat) : Statement (.spiEvtPor inst) :=
  fun _ _ =>
    (show packSel .evt (some .b1) .spi 0#24 &&& 0xFFFFFFFF#32 = 0x81000000#32 by decide)

end EncodeMatchesTable

end Sys2Proof.Laws
end

