-- ==== Sys2Proof/Tests/Slice0.lean ====
section
/-!
SUPPORT. Tests, every expected result taken from the spec (the rule is named), and one witness for the hypotheses of
every statement that has any.
-/

namespace Sys2Proof.Tests

open Sys2Proof.Machine

/-- A UART after reset (R33), with the registers that CFG_REF fixes. -/
def uart0 : Uart := Uart.afterReset Config.ref

/-- An SPI after power-on (R34). -/
def spi0 : Spi := Spi.afterReset Config.ref

/-- The block with its UART in the state `u`. -/
def withUart (u : Uart) : State := { State.reset with uarts := [u] }

/-- The block with its SPI in the state `p`. -/
def withSpi (p : Spi) : State := { State.reset with spis := [p] }

/-- A UART after reset but for CTRL and STAT. -/
def uartWith (ctrl stat : Word) (rx : List Byte) : Uart :=
  { uart0 with regs := { uart0.regs with ctrl := ctrl, stat := stat }, rx := rx }

/-- An enabled SPI after power-on. -/
def enabledSpi : Spi := { spi0 with enabled := true }

/-- The state an operation leaves; the same state where it is refused. -/
def after (i : Instr) (s : State) : State :=
  match exec i s with
  | .next t => t
  | _ => s

/-- The result and the guest error an operation hands back. -/
def got (i : Instr) (s : State) : Option Word × Option GuestError := ((after i s).reply.value, (after i s).reply.error)

/-- The UARTs an operation leaves. -/
def uartsAfter (i : Instr) (s : State) : List Uart := (after i s).uarts

/-- The SPIs an operation leaves. -/
def spisAfter (i : Instr) (s : State) : List Spi := (after i s).spis

/-! ## Well-formed operations and configurations -/

/-- R1. -/
theorem test_wf_refuses_missing_instance :
    (.uartRdStat 1 .b4 : Instr).wellFormed Config.ref = false := by decide

/-- R1. -/
theorem test_wf_refuses_missing_spi_instance :
    (.spiEvtPor 1 : Instr).wellFormed Config.ref = false := by decide

/-- R41. -/
theorem test_wf_refuses_value_too_wide_for_a_byte :
    (.uartWrData 0 .b1 0x141#32 : Instr).wellFormed Config.ref = false := by decide

/-- R41. -/
theorem test_wf_refuses_value_too_wide_for_a_half :
    (.spiWrTdr 0 .b2 0x10000#32 : Instr).wellFormed Config.ref = false := by decide

/-- R66. -/
theorem test_wf_refuses_unknown_at_a_known_offset :
    (.uartRdUnknown 0 .b4 0x14#24 : Instr).wellFormed Config.ref = false := by decide

/-- R66. -/
theorem test_wf_refuses_unknown_at_rdror :
    (.spiRdUnknown 0 .b1 0x78#24 : Instr).wellFormed Config.ref = false := by decide

/-- R42. -/
theorem test_wf_refuses_unknown_misaligned :
    (.uartRdUnknown 0 .b4 0x35#24 : Instr).wellFormed Config.ref = false := by decide

/-- R42. -/
theorem test_wf_refuses_unknown_past_the_region :
    (.spiRdUnknown 0 .b4 0x4000#24 : Instr).wellFormed Config.ref = false := by decide

/-- R41. -/
theorem test_wf_refuses_unknown_value_too_wide :
    (.uartWrUnknown 0 .b2 0x34#24 0x10000#32 : Instr).wellFormed Config.ref = false := by decide

/-- R43. -/
theorem test_wf_refuses_invalid_that_is_valid :
    (.uartRdInvalid 0 (some .b4) 0x14#24 : Instr).wellFormed Config.ref = false := by decide

/-- R41. -/
theorem test_wf_refuses_invalid_value_too_wide :
    (.spiWrInvalid 0 (some .b1) 0x4000#24 0x100#32 : Instr).wellFormed Config.ref = false := by decide

/-- The reference configuration with RDROR at another offset. -/
def rdrorAt (o : Off) : Config := { Config.ref with spi := { Config.ref.spi with rdrorOffset := o } }

/-- R42: a register whose offset is not aligned, or lies outside the region, cannot be accessed. -/
theorem test_wf_refuses_invalid_register :
    (.spiRdRdror 0 .b4 : Instr).wellFormed (rdrorAt 0x79#24) = false ∧
    (.spiRdRdror 0 .b4 : Instr).wellFormed (rdrorAt 0x4000#24) = false := by decide

/-- Operations at the boundary of what is admitted (R42, R61). -/
theorem test_wf_accepts :
    [(.uartWrData 0 .b1 0xFF#32 : Instr), .spiWrTdr 0 .b4 0xFFFFFFFF#32, .uartRdUnknown 0 .b1 0x3FFF#24,
      .uartRdInvalid 0 none 0x14#24, .uartRdInvalid 0 (some .b4) 0x3FFE#24, .spiRdUnknown 0 .b1 0x15#24,
      .uartEvtRx 0 0xFF#8, .spiEvtPor 0].all (Instr.wellFormed Config.ref) = true := by decide

/-- CFG_REF with another UART part. -/
def uartCfg (f : UartConfig → UartConfig) : Config := { Config.ref with uart := f Config.ref.uart }

/-- CFG_REF with another SPI part. -/
def spiCfg (f : SpiConfig → SpiConfig) : Config := { Config.ref with spi := f Config.ref.spi }

/-- R4, R12, R15, R16, R33, R161: each constraint on the UART parameters refuses a configuration. -/
theorem test_config_wf_refuses_uart :
    [uartCfg (fun c => { c with txCap := 0 }), uartCfg (fun c => { c with txCap := 256 }),
      uartCfg (fun c => { c with rxCap := 0 }), uartCfg (fun c => { c with rxCap := 256 }),
      uartCfg (fun c => { c with regionSize := 0x61 }), uartCfg (fun c => { c with regionSize := 0x5C }),
      uartCfg (fun c => { c with regionSize := 2 ^ 24 + 4, wiring := [] }),
      uartCfg (fun c => { c with wiring := [{ base := 0x8002, irq := 0 }] }),
      uartCfg (fun c => { c with reset := { c.reset with stat := 0#32 } }),
      uartCfg (fun c => { c with reset := { c.reset with global := 1#32 } }),
      uartCfg (fun c => { c with reset := { c.reset with ctrl := 0x00800000#32 } }),
      uartCfg (fun c => { c with reset := { c.reset with data := 0x100#32 } }),
      uartCfg (fun c => { c with reset := { c.reset with fifo := 0x00020000#32 } })].map Config.wf
      = List.replicate 13 false := by decide

/-- R4, R22, R23, R230: each constraint on the SPI parameters refuses a configuration. -/
theorem test_config_wf_refuses_spi :
    [spiCfg (fun c => { c with txCap := 0 }), spiCfg (fun c => { c with txCap := 65536 }),
      spiCfg (fun c => { c with rxCap := 0 }), spiCfg (fun c => { c with rxCap := 65536 }),
      spiCfg (fun c => { c with regionSize := 0x7E }), spiCfg (fun c => { c with regionSize := 0x78 }),
      spiCfg (fun c => { c with regionSize := 2 ^ 24 + 4, wiring := [] }),
      spiCfg (fun c => { c with wiring := [{ base := 0x8001, irq := 0, peer := .loopback }] }),
      spiCfg (fun c => { c with reset := { c.reset with cr := 2#32 } }),
      spiCfg (fun c => { c with reset := { c.reset with sr := 0x100#32 } }),
      spiCfg (fun c => { c with reset := { c.reset with ier := 1#32 } }),
      rdrorAt 0x7A#24, rdrorAt 0x74#24].map Config.wf = List.replicate 13 false := by decide

/-- R4: regions that meet are refused; the bounds themselves are admitted. -/
theorem test_config_wf_regions_and_bounds :
    (uartCfg (fun c => { c with wiring := [{ base := 0x4000, irq := 0 }] })).wf = false ∧
    (uartCfg (fun c => { c with wiring := [{ base := 0, irq := 0 }, { base := 0x3FFC, irq := 1 }] })).wf = false ∧
    (uartCfg (fun c => { c with txCap := 1, rxCap := 255, regionSize := 0x60 })).wf = true ∧
    (spiCfg (fun c => { c with txCap := 65535, rxCap := 1, regionSize := 0x7C })).wf = true ∧ Config.ref.wf = true := by
  decide

/-! ## Decoding: the words of R61 and of every row of R63, R64, R65 and R66 -/

/-- R63, class RD, at the three sizes in turn. -/
theorem test_decode_uart_reads :
    [decodeTableWord 32 0x20000000,
      decodeTableWord 32 0x10000004,
      decodeTableWord 32 0x00000008,
      decodeTableWord 32 0x2000000C,
      decodeTableWord 32 0x10000010,
      decodeTableWord 32 0x00000014,
      decodeTableWord 32 0x20000018,
      decodeTableWord 32 0x1000001C,
      decodeTableWord 32 0x00000020,
      decodeTableWord 32 0x20000024,
      decodeTableWord 32 0x10000028,
      decodeTableWord 32 0x0000002C,
      decodeTableWord 32 0x20000030,
      decodeTableWord 32 0x10000040,
      decodeTableWord 32 0x00000044,
      decodeTableWord 32 0x20000048,
      decodeTableWord 32 0x1000004C,
      decodeTableWord 32 0x00000050,
      decodeTableWord 32 0x20000058,
      decodeTableWord 32 0x1000005C] =
      [some (.uartRdVerid 0 .b4),
        some (.uartRdParam 0 .b2),
        some (.uartRdGlobal 0 .b1),
        some (.uartRdPincfg 0 .b4),
        some (.uartRdBaud 0 .b2),
        some (.uartRdStat 0 .b1),
        some (.uartRdCtrl 0 .b4),
        some (.uartRdData 0 .b2),
        some (.uartRdMatch 0 .b1),
        some (.uartRdModir 0 .b4),
        some (.uartRdFifo 0 .b2),
        some (.uartRdWater 0 .b1),
        some (.uartRdDataro 0 .b4),
        some (.uartRdMcr 0 .b2),
        some (.uartRdMsr 0 .b1),
        some (.uartRdReir 0 .b4),
        some (.uartRdTeir 0 .b2),
        some (.uartRdHdcr 0 .b1),
        some (.uartRdTocr 0 .b4),
        some (.uartRdTosr 0 .b2)] := by decide

/-- R63, class WR, at the three sizes in turn. -/
theorem test_decode_uart_writes :
    [decodeTableWord 64 0xA1B2C3D060000000,
      decodeTableWord 64 0x0000C30150000004,
      decodeTableWord 64 0x000000D240000008,
      decodeTableWord 64 0xA1B2C3D36000000C,
      decodeTableWord 64 0x0000C30450000010,
      decodeTableWord 64 0x000000D540000014,
      decodeTableWord 64 0xA1B2C3D660000018,
      decodeTableWord 64 0x0000C3075000001C,
      decodeTableWord 64 0x000000D840000020,
      decodeTableWord 64 0xA1B2C3D960000024,
      decodeTableWord 64 0x0000C30A50000028,
      decodeTableWord 64 0x000000DB4000002C,
      decodeTableWord 64 0xA1B2C3DC60000030,
      decodeTableWord 64 0x0000C30D50000040,
      decodeTableWord 64 0x000000DE40000044,
      decodeTableWord 64 0xA1B2C3DF60000048,
      decodeTableWord 64 0x0000C3105000004C,
      decodeTableWord 64 0x000000E140000050,
      decodeTableWord 64 0xA1B2C3E260000058,
      decodeTableWord 64 0x0000C3135000005C] =
      [some (.uartWrVerid 0 .b4 0xA1B2C3D0#32),
        some (.uartWrParam 0 .b2 0xC301#32),
        some (.uartWrGlobal 0 .b1 0xD2#32),
        some (.uartWrPincfg 0 .b4 0xA1B2C3D3#32),
        some (.uartWrBaud 0 .b2 0xC304#32),
        some (.uartWrStat 0 .b1 0xD5#32),
        some (.uartWrCtrl 0 .b4 0xA1B2C3D6#32),
        some (.uartWrData 0 .b2 0xC307#32),
        some (.uartWrMatch 0 .b1 0xD8#32),
        some (.uartWrModir 0 .b4 0xA1B2C3D9#32),
        some (.uartWrFifo 0 .b2 0xC30A#32),
        some (.uartWrWater 0 .b1 0xDB#32),
        some (.uartWrDataro 0 .b4 0xA1B2C3DC#32),
        some (.uartWrMcr 0 .b2 0xC30D#32),
        some (.uartWrMsr 0 .b1 0xDE#32),
        some (.uartWrReir 0 .b4 0xA1B2C3DF#32),
        some (.uartWrTeir 0 .b2 0xC310#32),
        some (.uartWrHdcr 0 .b1 0xE1#32),
        some (.uartWrTocr 0 .b4 0xA1B2C3E2#32),
        some (.uartWrTosr 0 .b2 0xC313#32)] := by decide

/-- R64, class RD, at the three sizes in turn. -/
theorem test_decode_spi_reads :
    [decodeTableWord 32 0x21000000,
      decodeTableWord 32 0x11000004,
      decodeTableWord 32 0x01000010,
      decodeTableWord 32 0x21000014,
      decodeTableWord 32 0x11000018,
      decodeTableWord 32 0x0100001C,
      decodeTableWord 32 0x21000020,
      decodeTableWord 32 0x11000024,
      decodeTableWord 32 0x01000030,
      decodeTableWord 32 0x21000034,
      decodeTableWord 32 0x11000040,
      decodeTableWord 32 0x01000044,
      decodeTableWord 32 0x21000058,
      decodeTableWord 32 0x1100005C,
      decodeTableWord 32 0x01000060,
      decodeTableWord 32 0x21000064,
      decodeTableWord 32 0x11000070,
      decodeTableWord 32 0x01000074,
      decodeTableWord 32 0x21000078] =
      [some (.spiRdVerid 0 .b4),
        some (.spiRdParam 0 .b2),
        some (.spiRdCr 0 .b1),
        some (.spiRdSr 0 .b4),
        some (.spiRdIer 0 .b2),
        some (.spiRdDer 0 .b1),
        some (.spiRdCfgr0 0 .b4),
        some (.spiRdCfgr1 0 .b2),
        some (.spiRdDmr0 0 .b1),
        some (.spiRdDmr1 0 .b4),
        some (.spiRdCcr 0 .b2),
        some (.spiRdCcr1 0 .b1),
        some (.spiRdFcr 0 .b4),
        some (.spiRdFsr 0 .b2),
        some (.spiRdTcr 0 .b1),
        some (.spiRdTdr 0 .b4),
        some (.spiRdRsr 0 .b2),
        some (.spiRdRdr 0 .b1),
        some (.spiRdRdror 0 .b4)] := by decide

/-- R64, class WR, at the three sizes in turn. -/
theorem test_decode_spi_writes :
    [decodeTableWord 64 0xA1B2C3D061000000,
      decodeTableWord 64 0x0000C30151000004,
      decodeTableWord 64 0x000000D241000010,
      decodeTableWord 64 0xA1B2C3D361000014,
      decodeTableWord 64 0x0000C30451000018,
      decodeTableWord 64 0x000000D54100001C,
      decodeTableWord 64 0xA1B2C3D661000020,
      decodeTableWord 64 0x0000C30751000024,
      decodeTableWord 64 0x000000D841000030,
      decodeTableWord 64 0xA1B2C3D961000034,
      decodeTableWord 64 0x0000C30A51000040,
      decodeTableWord 64 0x000000DB41000044,
      decodeTableWord 64 0xA1B2C3DC61000058,
      decodeTableWord 64 0x0000C30D5100005C,
      decodeTableWord 64 0x000000DE41000060,
      decodeTableWord 64 0xA1B2C3DF61000064,
      decodeTableWord 64 0x0000C31051000070,
      decodeTableWord 64 0x000000E141000074,
      decodeTableWord 64 0xA1B2C3E261000078] =
      [some (.spiWrVerid 0 .b4 0xA1B2C3D0#32),
        some (.spiWrParam 0 .b2 0xC301#32),
        some (.spiWrCr 0 .b1 0xD2#32),
        some (.spiWrSr 0 .b4 0xA1B2C3D3#32),
        some (.spiWrIer 0 .b2 0xC304#32),
        some (.spiWrDer 0 .b1 0xD5#32),
        some (.spiWrCfgr0 0 .b4 0xA1B2C3D6#32),
        some (.spiWrCfgr1 0 .b2 0xC307#32),
        some (.spiWrDmr0 0 .b1 0xD8#32),
        some (.spiWrDmr1 0 .b4 0xA1B2C3D9#32),
        some (.spiWrCcr 0 .b2 0xC30A#32),
        some (.spiWrCcr1 0 .b1 0xDB#32),
        some (.spiWrFcr 0 .b4 0xA1B2C3DC#32),
        some (.spiWrFsr 0 .b2 0xC30D#32),
        some (.spiWrTcr 0 .b1 0xDE#32),
        some (.spiWrTdr 0 .b4 0xA1B2C3DF#32),
        some (.spiWrRsr 0 .b2 0xC310#32),
        some (.spiWrRdr 0 .b1 0xE1#32),
        some (.spiWrRdror 0 .b4 0xA1B2C3E2#32)] := by decide

/-- R65, with the examples of R61. -/
theorem test_decode_events :
    [decodeTableWord 32 0x80000000,
      decodeTableWord 64 0x0000006180000001,
      decodeTableWord 32 0x80000002,
      decodeTableWord 32 0x81000000] =
      [some (.uartEvtPor 0),
        some (.uartEvtRx 0 0x61#8),
        some (.uartEvtCanacc 0),
        some (.spiEvtPor 0)] := by decide

/-- R66: valid accesses that select no register, up to the last byte of the region. -/
theorem test_decode_unknown :
    [decodeTableWord 32 0x20000034,
      decodeTableWord 32 0x00000015,
      decodeTableWord 32 0x00003FFF,
      decodeTableWord 64 0x1234567860000054,
      decodeTableWord 32 0x21000008,
      decodeTableWord 32 0x21000400,
      decodeTableWord 64 0x000000AA61000400] =
      [some (.uartRdUnknown 0 .b4 0x34#24),
        some (.uartRdUnknown 0 .b1 0x15#24),
        some (.uartRdUnknown 0 .b1 0x3FFF#24),
        some (.uartWrUnknown 0 .b4 0x54#24 0x12345678#32),
        some (.spiRdUnknown 0 .b4 0x8#24),
        some (.spiRdUnknown 0 .b4 0x400#24),
        some (.spiWrUnknown 0 .b4 0x400#24 0xAA#32)] := by decide

/-- R42, R43: size 3, misaligned, past the region; the check comes before the row (R62). -/
theorem test_decode_invalid :
    [decodeTableWord 32 0x30000018,
      decodeTableWord 32 0x20000016,
      decodeTableWord 32 0x10000015,
      decodeTableWord 32 0x20004000,
      decodeTableWord 64 0x0000000160003FFE,
      decodeTableWord 64 0xFFFFFFFF7000001C,
      decodeTableWord 32 0x21000075,
      decodeTableWord 32 0x01004000,
      decodeTableWord 64 0x0000000251000065] =
      [some (.uartRdInvalid 0 none 0x18#24),
        some (.uartRdInvalid 0 (some .b4) 0x16#24),
        some (.uartRdInvalid 0 (some .b2) 0x15#24),
        some (.uartRdInvalid 0 (some .b4) 0x4000#24),
        some (.uartWrInvalid 0 (some .b4) 0x3FFE#24 1#32),
        some (.uartWrInvalid 0 none 0x1C#24 0xFFFFFFFF#32),
        some (.spiRdInvalid 0 (some .b4) 0x75#24),
        some (.spiRdInvalid 0 (some .b1) 0x4000#24),
        some (.spiWrInvalid 0 (some .b2) 0x65#24 2#32)] := by decide

/-- R62 step 1: descriptors that are no operation of the block. -/
theorem test_decode_refuses :
    [(0xC0000000#32, 0), (0x02000000#32, 0), (0x4F000000#32, 0), (0x90000000#32, 0), (0x80000100#32, 0),
      (0x80000003#32, 0), (0x81000001#32, 0), (0x00000014#32, 1)].map
        (fun p => decode Config.ref { inst := p.2, sel := p.1, val := 0#32 })
      = [.error .noSuchClass, .error .noSuchKind, .error .noSuchKind, .error .eventSize, .error .eventReservedBits,
        .error .noSuchEvent, .error .noSuchEvent, .error .noSuchInstance] := by decide

/-- R41, R45 (log 8): bits of `val` above the access size are not part of the value. -/
theorem test_decode_narrow_value :
    decodeTableWord 64 0xFFFFFF414000001C = some (.uartWrData 0 .b1 0x41#32) := by decide

/-- R61: the encoder writes the words the examples of R61 give. -/
theorem test_encode_examples :
    [(.uartRdStat 0 .b4 : Instr), .uartWrData 0 .b4 0x41#32, .uartRdData 0 .b1, .spiWrTdr 0 .b4 0xAA#32,
      .uartEvtRx 0 0x61#8, .spiEvtPor 0].map (fun i => ((encode Config.ref i).sel, (encode Config.ref i).val))
      = [(0x20000014#32, 0#32), (0x6000001C#32, 0x41#32), (0x0000001C#32, 0#32), (0x61000064#32, 0xAA#32),
        (0x80000001#32, 0x61#32), (0x81000000#32, 0#32)] := by decide

/-! ## Register reads and writes -/

/-- UART registers that all differ. -/
def uartMarks : UartRegs where
  global := 0x11000021#32
  pincfg := 0x12000022#32
  baud := 0x13000023#32
  stat := 0x14000024#32
  ctrl := 0x15000025#32
  data := 0x16000026#32
  matchReg := 0x17000027#32
  modir := 0x18000028#32
  fifo := 0x19000029#32
  water := 0x1A00002A#32
  mcr := 0x1B00002B#32
  msr := 0x1C00002C#32
  reir := 0x1D00002D#32
  teir := 0x1E00002E#32
  hdcr := 0x1F00002F#32
  tocr := 0x20000030#32
  tosr := 0x21000031#32

/-- SPI registers that all differ. -/
def spiMarks : SpiRegs where
  cr := 0x51000061#32
  sr := 0x52000062#32
  ier := 0x53000063#32
  der := 0x54000064#32
  cfgr0 := 0x55000065#32
  cfgr1 := 0x56000066#32
  dmr0 := 0x57000067#32
  dmr1 := 0x58000068#32
  ccr := 0x59000069#32
  ccr1 := 0x5A00006A#32
  fcr := 0x5B00006B#32
  tcr := 0x5C00006C#32

/-- R112 to R129: every plain UART read answers its own word. -/
theorem test_uart_plain_reads :
    [(.uartRdGlobal 0 .b4 : Instr), .uartRdPincfg 0 .b4, .uartRdBaud 0 .b4, .uartRdStat 0 .b4,
      .uartRdCtrl 0 .b4, .uartRdMatch 0 .b4, .uartRdModir 0 .b4, .uartRdMcr 0 .b4, .uartRdMsr 0 .b4,
      .uartRdReir 0 .b4, .uartRdTeir 0 .b4, .uartRdHdcr 0 .b4, .uartRdTocr 0 .b4, .uartRdTosr 0 .b4].map
        (fun i => got i (withUart { uart0 with regs := uartMarks }))
      = [0x11000021#32, 0x12000022#32, 0x13000023#32, 0x14000024#32, 0x15000025#32, 0x17000027#32, 0x18000028#32,
        0x1B00002B#32, 0x1C00002C#32, 0x1D00002D#32, 0x1E00002E#32, 0x1F00002F#32, 0x20000030#32, 0x21000031#32].map
        (fun w => (some w, none)) := by decide

/-- R182 to R194: every plain SPI read answers its own word. -/
theorem test_spi_plain_reads :
    [(.spiRdCr 0 .b4 : Instr), .spiRdIer 0 .b4, .spiRdDer 0 .b4, .spiRdCfgr0 0 .b4, .spiRdCfgr1 0 .b4,
      .spiRdDmr0 0 .b4, .spiRdDmr1 0 .b4, .spiRdCcr 0 .b4, .spiRdCcr1 0 .b4, .spiRdFcr 0 .b4, .spiRdTcr 0 .b4].map
        (fun i => got i (withSpi { spi0 with regs := spiMarks }))
      = [0x51000061#32, 0x53000063#32, 0x54000064#32, 0x55000065#32, 0x56000066#32, 0x57000067#32, 0x58000068#32,
        0x59000069#32, 0x5A00006A#32, 0x5B00006B#32, 0x5C00006C#32].map
        (fun w => (some w, none)) := by decide

/-- R143 to R159: every plain UART write changes its own word and no other. -/
theorem test_uart_plain_writes :
    [(.uartWrPincfg 0 .b4 0xFEDCBA98#32 : Instr), .uartWrBaud 0 .b4 0xFEDCBA98#32,
      .uartWrMatch 0 .b4 0xFEDCBA98#32, .uartWrModir 0 .b4 0xFEDCBA98#32, .uartWrWater 0 .b4 0xFEDCBA98#32,
      .uartWrMcr 0 .b4 0xFEDCBA98#32, .uartWrMsr 0 .b4 0xFEDCBA98#32, .uartWrReir 0 .b4 0xFEDCBA98#32,
      .uartWrTeir 0 .b4 0xFEDCBA98#32, .uartWrHdcr 0 .b4 0xFEDCBA98#32, .uartWrTocr 0 .b4 0xFEDCBA98#32,
      .uartWrTosr 0 .b4 0xFEDCBA98#32].map
        (fun i => (uartsAfter i (withUart { uart0 with regs := uartMarks })).map (fun u => u.regs))
      = [{ uartMarks with pincfg := 0xFEDCBA98#32 }, { uartMarks with baud := 0xFEDCBA98#32 },
        { uartMarks with matchReg := 0xFEDCBA98#32 }, { uartMarks with modir := 0xFEDCBA98#32 },
        { uartMarks with water := 0xFEDCBA98#32 }, { uartMarks with mcr := 0xFEDCBA98#32 },
        { uartMarks with msr := 0xFEDCBA98#32 }, { uartMarks with reir := 0xFEDCBA98#32 },
        { uartMarks with teir := 0xFEDCBA98#32 }, { uartMarks with hdcr := 0xFEDCBA98#32 },
        { uartMarks with tocr := 0xFEDCBA98#32 }, { uartMarks with tosr := 0xFEDCBA98#32 }].map
        (fun g => [g]) := by decide

/-- R214 to R224: every plain SPI write changes its own word and no other. -/
theorem test_spi_plain_writes :
    [(.spiWrIer 0 .b4 0xFEDCBA98#32 : Instr), .spiWrDer 0 .b4 0xFEDCBA98#32, .spiWrCfgr0 0 .b4 0xFEDCBA98#32,
      .spiWrDmr0 0 .b4 0xFEDCBA98#32, .spiWrDmr1 0 .b4 0xFEDCBA98#32, .spiWrCcr 0 .b4 0xFEDCBA98#32,
      .spiWrCcr1 0 .b4 0xFEDCBA98#32, .spiWrFcr 0 .b4 0xFEDCBA98#32, .spiWrTcr 0 .b4 0xFEDCBA98#32].map
        (fun i => (spisAfter i (withSpi { spi0 with regs := spiMarks })).map (fun p => p.regs))
      = [{ spiMarks with ier := 0xFEDCBA98#32 }, { spiMarks with der := 0xFEDCBA98#32 },
        { spiMarks with cfgr0 := 0xFEDCBA98#32 }, { spiMarks with dmr0 := 0xFEDCBA98#32 },
        { spiMarks with dmr1 := 0xFEDCBA98#32 }, { spiMarks with ccr := 0xFEDCBA98#32 },
        { spiMarks with ccr1 := 0xFEDCBA98#32 }, { spiMarks with fcr := 0xFEDCBA98#32 },
        { spiMarks with tcr := 0xFEDCBA98#32 }].map
        (fun g => [g]) := by decide

/-- R110, R111, R122, R180, R181: the identification constants of CFG_REF, and 0 from DATARO with a byte waiting. -/
theorem test_identification_reads :
    [(.uartRdVerid 0 .b4 : Instr), .uartRdParam 0 .b4, .uartRdDataro 0 .b4, .spiRdVerid 0 .b4, .spiRdParam 0 .b4].map
        (fun i => got i (withUart (uartWith 0#32 0#32 [0x61#8])))
      = [0x04040007#32, 0x00000202#32, 0#32, 0x02000004#32, 0x00080202#32].map (fun w => (some w, none)) := by decide

/-- R45: a byte and a half-word read of STAT = 0x00C00000 and of SPI VERID. -/
theorem test_narrow_reads :
    [(.uartRdStat 0 .b1 : Instr), .uartRdStat 0 .b2, .spiRdVerid 0 .b1, .spiRdVerid 0 .b2].map
        (fun i => got i State.reset)
      = [0#32, 0#32, 0x04#32, 0x0004#32].map (fun w => (some w, none)) := by decide

/-- R45, R98: a narrow write zero-extends; the upper bits become 0. -/
theorem test_narrow_write :
    (uartsAfter (.uartWrBaud 0 .b1 0x12#32) (withUart { uart0 with regs := uartMarks })).map (fun u => u.reg .baud)
      = [0x12#32] := by decide

/-- R117: with RE set, `rx = [0x61]`, STAT = 0x00E00000, DATA reads 0x61 and leaves `rx = []`, STAT = 0x00C00000. -/
theorem test_uart_data_read :
    (after (.uartRdData 0 .b4) (withUart (uartWith 0x00040000#32 0x00E00000#32 [0x61#8])))
      = { withUart { uartWith 0x00040000#32 0x00C00000#32 [] with
            regs := { uart0.regs with ctrl := 0x00040000#32, stat := 0x00C00000#32, data := 0x61#32 } } with
          reply := { value := some 0x61#32, error := none } } := by decide

/-- R117, R120: an underflowing DATA read answers 0 and sets RXUF, so that FIFO then reads 0x00C10000. -/
theorem test_uart_data_underflow :
    got (.uartRdData 0 .b4) State.reset = (some 0#32, none) ∧
    (uartsAfter (.uartRdData 0 .b4) State.reset).map Uart.fifoLive = [0x00C10000#32] := by decide

/-- R120: FIFO reads 0x00C00000 from reset, and with both FIFOs holding something its live bits are 0. -/
theorem test_uart_fifo_read :
    got (.uartRdFifo 0 .b4) State.reset = (some 0x00C00000#32, none) ∧
    got (.uartRdFifo 0 .b4) (withUart { uart0 with tx := [1#8], rx := [2#8] }) = (some 0#32, none) := by decide

/-- R121: with RXWATER 2 and three bytes received WATER reads 0x03020000. -/
theorem test_uart_water_read :
    got (.uartRdWater 0 .b4)
        (withUart { uart0 with regs := { uart0.regs with water := 0xFF02FF00#32 }, rx := [1#8, 2#8, 3#8] })
      = (some 0x03020000#32, none) := by decide

/-- R142: GLOBAL.RST with CTRL = 0x002C0000 and a byte received leaves the reset state and a low interrupt line. -/
theorem test_uart_global_reset :
    uartsAfter (.uartWrGlobal 0 .b4 1#32) (withUart (uartWith 0x002C0000#32 0x00E80000#32 [0x61#8])) = [uart0] ∧
    uart0.reg .ctrl = 0#32 ∧ uart0.reg .stat = 0x00C00000#32 ∧ uart0.irq = false := by decide

/-- R112, R142: GLOBAL without RST is stored. -/
theorem test_uart_global_store :
    (uartsAfter (.uartWrGlobal 0 .b4 0x00000002#32) (withUart { uart0 with rx := [0x61#8] })).map
        (fun u => (u.reg .global, u.rx)) = [(0x00000002#32, [0x61#8])] := by decide

/-- R145: with STAT = 0x00E80000 the write 0x00080000 leaves 0x00E00000; all ones clears nothing but 19:16. -/
theorem test_uart_stat_write :
    [0x00080000#32, 0xFFFFFFFF#32, 0xFFF0FFFF#32].map
        (fun w => (uartsAfter (.uartWrStat 0 .b4 w) (withUart (uartWith 0#32 0x00E80000#32 []))).map
          (fun u => u.reg .stat))
      = [[0x00E00000#32], [0x00E00000#32], [0x00E80000#32]] := by decide

/-- R146: setting TE gives STAT = 0x00800000. -/
theorem test_uart_ctrl_rising_te :
    (uartsAfter (.uartWrCtrl 0 .b4 0x00080000#32) State.reset).map (fun u => u.reg .stat) = [0x00800000#32] := by decide

/-- R146: clearing TE again gives STAT = 0x00C00000; with a byte queued TC stays as it was. -/
theorem test_uart_ctrl_falling_te :
    (uartsAfter (.uartWrCtrl 0 .b4 0#32) (withUart (uartWith 0x00080000#32 0x00800000#32 []))).map
        (fun u => u.reg .stat) = [0x00C00000#32] ∧
    (uartsAfter (.uartWrCtrl 0 .b4 0#32)
        (withUart { uartWith 0x00080000#32 0x00800000#32 [] with tx := [1#8] })).map
        (fun u => u.reg .stat) = [0x00800000#32] := by decide

/-- R147: with TE set DATA 0x41 is sent and STAT becomes 0x00C00000; the byte queued first is sent first. -/
theorem test_uart_data_write :
    (uartsAfter (.uartWrData 0 .b4 0x41#32) (withUart (uartWith 0x00080000#32 0x00800000#32 []))).map
        (fun u => (u.out, u.tx, u.reg .stat)) = [([0x41#8], [], 0x00C00000#32)] ∧
    (uartsAfter (.uartWrData 0 .b4 0x141#32)
        (withUart { uartWith 0x00080000#32 0x00C00000#32 [] with tx := [0x42#8] })).map
        (fun u => (u.out, u.tx, u.reg .stat)) = [([0x42#8], [0x41#8], 0#32)] := by decide

/-- R147: with TE clear nothing happens; with the TX FIFO full TXOF is set and nothing is sent. -/
theorem test_uart_data_write_ignored_or_full :
    uartsAfter (.uartWrData 0 .b4 0x41#32) State.reset = [uart0] ∧
    (uartsAfter (.uartWrData 0 .b4 0x41#32)
        (withUart { uartWith 0x00080000#32 0x00C00000#32 [] with tx := [1#8, 2#8, 3#8, 4#8] })).map
        (fun u => (u.out, u.tx, u.reg .fifo, u.reg .stat))
      = [([], [1#8, 2#8, 3#8, 4#8], 0x00020000#32, 0#32)] := by decide

/-- R150: with FIFO reading 0x00C10000 the write 0x00010000 makes it read 0x00C00000. -/
theorem test_uart_fifo_write :
    (uartsAfter (.uartWrFifo 0 .b4 0x00010000#32)
        (withUart { uart0 with regs := { uart0.regs with fifo := 0x00010000#32 } })).map Uart.fifoLive
      = [0x00C00000#32] ∧
    (uartsAfter (.uartWrFifo 0 .b4 0x800000FF#32)
        (withUart { uart0 with regs := { uart0.regs with fifo := 0x00030000#32 } })).map (fun u => u.reg .fifo)
      = [0x800300FF#32] := by decide

/-- R269: a WATER write leaves RDRF alone. -/
theorem test_uart_water_write_leaves_rdrf :
    (uartsAfter (.uartWrWater 0 .b4 0x00020000#32) (withUart (uartWith 0x00040000#32 0x00E00000#32 [1#8]))).map
        (fun u => (u.reg .water, u.reg .stat)) = [(0x00020000#32, 0x00E00000#32)] := by decide

/-- R67, R140, R141, R152, R210, R211, R223, R226 to R228: writes to read-only registers. -/
theorem test_writes_to_read_only :
    [(.uartWrVerid 0 .b4 0xFFFFFFFF#32 : Instr), .uartWrParam 0 .b4 0#32, .uartWrDataro 0 .b4 0x41#32,
      .spiWrVerid 0 .b4 0#32, .spiWrParam 0 .b4 0#32, .spiWrFsr 0 .b4 0x00040004#32, .spiWrRsr 0 .b4 0#32,
      .spiWrRdr 0 .b4 0x55#32, .spiWrRdror 0 .b4 0x55#32].all
        (fun i => after i State.reset
          == { State.reset with reply := { value := none, error := some .writeToReadOnly } }) = true := by decide

/-- R195: a read of TDR answers 0. -/
theorem test_spi_tdr_read : got (.spiRdTdr 0 .b4) State.reset = (some 0#32, some .readOfWriteOnly) := by decide

/-- R130, R160, R199, R229: offsets without a register. -/
theorem test_unknown_offsets :
    [(.uartRdUnknown 0 .b4 0x34#24 : Instr), .uartWrUnknown 0 .b4 0x54#24 0x12345678#32, .spiRdUnknown 0 .b4 0x400#24,
      .spiWrUnknown 0 .b4 0x400#24 0xAA#32].map (fun i => after i State.reset)
      = [some 0#32, none, some 0#32, none].map
        (fun v => { State.reset with reply := { value := v, error := some .unknownOffset } }) := by decide

/-- R43, R240: the kind an invalid access reports. -/
theorem test_invalid_accesses :
    [(.uartRdInvalid 0 none 0x15#24 : Instr), .uartWrInvalid 0 (some .b4) 0x4002#24 0#32,
      .spiRdInvalid 0 (some .b4) 0x4000#24, .spiWrInvalid 0 (some .b2) 0x65#24 0#32].map (fun i => got i State.reset)
      = [(some 0#32, some .badSize), (none, some .misaligned), (some 0#32, some .outOfRange),
        (none, some .misaligned)] := by decide

/-- R170: the fourth byte sets nothing but RDRF; the fifth sets OR and leaves the RX FIFO. -/
theorem test_uart_receive :
    (uartsAfter (.uartEvtRx 0 0x64#8)
        (withUart (uartWith 0x00040000#32 0x00E00000#32 [0x61#8, 0x62#8, 0x63#8]))).map
        (fun u => (u.rx, u.reg .stat)) = [([0x61#8, 0x62#8, 0x63#8, 0x64#8], 0x00E00000#32)] ∧
    (uartsAfter (.uartEvtRx 0 0x65#8)
        (withUart (uartWith 0x00040000#32 0x00E00000#32 [0x61#8, 0x62#8, 0x63#8, 0x64#8]))).map
        (fun u => (u.rx, u.reg .stat)) = [([0x61#8, 0x62#8, 0x63#8, 0x64#8], 0x00E80000#32)] := by decide

/-- R170: with RE clear the byte is dropped and OR stays 0, but RDRF is re-derived. -/
theorem test_uart_receive_disabled :
    (uartsAfter (.uartEvtRx 0 0x65#8) (withUart (uartWith 0#32 0x00C00000#32 [1#8]))).map
        (fun u => (u.rx, u.reg .stat)) = [([1#8], 0x00E00000#32)] := by decide

/-- R171: 0 from reset, 1 with RE set, 0 with four bytes held. -/
theorem test_uart_can_accept :
    [withUart uart0, withUart (uartWith 0x00040000#32 0#32 []),
      withUart (uartWith 0x00040000#32 0#32 [1#8, 2#8, 3#8, 4#8])].map (got (.uartEvtCanacc 0))
      = [(some 0#32, none), (some 1#32, none), (some 0#32, none)] := by decide

/-- R260, R33, R34, R263: a power-on reset restores the reset state; what was sent stays on record. -/
theorem test_power_on_resets :
    uartsAfter (.uartEvtPor 0)
        (withUart { regs := uartMarks, tx := [1#8], rx := [2#8], out := [3#8] }) = [{ uart0 with out := [3#8] }] ∧
    spisAfter (.spiEvtPor 0)
        (withSpi { regs := spiMarks, tx := [1#32], rx := [2#32], enabled := true, master := true, sent := [3#32] })
      = [{ spi0 with sent := [3#32] }] := by decide

/-- R182, R212: CR 0x00000301 is stored as 1 and enables. -/
theorem test_spi_cr_write :
    (spisAfter (.spiWrCr 0 .b4 0x00000301#32) (withSpi { spi0 with tx := [1#32], rx := [2#32] })).map
        (fun p => (p.reg .cr, p.enabled, p.tx, p.rx)) = [(1#32, true, [], [])] ∧
    (spisAfter (.spiWrCr 0 .b4 0x00000200#32) (withSpi { enabledSpi with tx := [1#32], rx := [2#32] })).map
        (fun p => (p.reg .cr, p.enabled, p.tx, p.rx)) = [(0#32, false, [1#32], [])] := by decide

/-- R212, R230: CR.RST clears CR and the FIFOs and leaves `enabled` true. -/
theorem test_spi_cr_reset :
    spisAfter (.spiWrCr 0 .b4 2#32)
        (withSpi { regs := spiMarks, tx := [1#32], rx := [2#32], enabled := true, master := true, sent := [3#32] })
      = [{ spi0 with enabled := true, master := true, sent := [3#32] }] := by decide

/-- R183: SR reads 1 from power-on; FCR watermarks move TDF and RDF. -/
theorem test_spi_sr_read :
    got (.spiRdSr 0 .b4) State.reset = (some 1#32, none) ∧
    got (.spiRdSr 0 .b4)
        (withSpi { spi0 with regs := { spi0.regs with fcr := 0x00010001#32, sr := 0x1F00#32 }
                             tx := [1#32, 2#32], rx := [3#32, 4#32] }) = (some 0x1F02#32, none) := by decide

/-- R213: with SR reading 0x00001703 the write 0x00001000 leaves 0x00000703. -/
theorem test_spi_sr_write :
    (spisAfter (.spiWrSr 0 .b4 0x00001000#32)
        (withSpi { spi0 with regs := { spi0.regs with sr := 0x00001700#32 }, rx := [0xAA#32] })).map Spi.srLive
      = [0x00000703#32] := by decide

/-- R187, R217: CFGR1 latches MASTER. -/
theorem test_spi_cfgr1_write :
    (spisAfter (.spiWrCfgr1 0 .b4 3#32) State.reset).map (fun p => (p.reg .cfgr1, p.master)) = [(3#32, true)] ∧
    (spisAfter (.spiWrCfgr1 0 .b4 2#32) (withSpi { spi0 with master := true })).map
        (fun p => (p.reg .cfgr1, p.master)) = [(2#32, false)] := by decide

/-- R193, R196: FSR with two words received, RSR empty and not. -/
theorem test_spi_fsr_rsr_reads :
    got (.spiRdFsr 0 .b4) (withSpi { spi0 with tx := [1#32], rx := [2#32, 3#32] }) = (some 0x00020001#32, none) ∧
    got (.spiRdRsr 0 .b4) State.reset = (some 2#32, none) ∧
    got (.spiRdRsr 0 .b4) (withSpi { spi0 with rx := [3#32] }) = (some 0#32, none) := by decide

/-- R197: RDR answers the oldest word; from an empty FIFO all ones, with REF set. -/
theorem test_spi_rdr_read :
    got (.spiRdRdr 0 .b4) (withSpi { spi0 with rx := [0xAA#32, 0x55#32] }) = (some 0xAA#32, none) ∧
    (spisAfter (.spiRdRdr 0 .b4) (withSpi { spi0 with rx := [0xAA#32, 0x55#32] })).map (fun p => p.rx)
      = [[0x55#32]] ∧
    got (.spiRdRdr 0 .b1) State.reset = (some 0xFF#32, none) ∧
    (spisAfter (.spiRdRdr 0 .b4) State.reset).map (fun p => p.reg .sr) = [0x1000#32] := by decide

/-- R198: RDROR answers the oldest word and keeps it; from an empty FIFO all ones, with no flag. -/
theorem test_spi_rdror_read :
    after (.spiRdRdror 0 .b4) (withSpi { spi0 with rx := [0xAA#32, 0x55#32] })
      = { withSpi { spi0 with rx := [0xAA#32, 0x55#32] } with reply := { value := some 0xAA#32, error := none } } ∧
    after (.spiRdRdror 0 .b4) State.reset
      = { State.reset with reply := { value := some 0xFFFFFFFF#32, error := none } } := by decide

/-- R225: enabled, loopback, empty FIFOs: `rx = [0xAA]`, `tx = []`, SR reads 0x703, FSR reads 0x00010000. -/
theorem test_spi_tdr_write_enabled :
    (spisAfter (.spiWrTdr 0 .b4 0xAA#32) (withSpi enabledSpi)).map (fun p => (p.rx, p.tx, p.srLive, p.fsr, p.sent))
      = [([0xAA#32], [], 0x703#32, 0x00010000#32, [0xAA#32])] ∧
    (spisAfter (.spiWrTdr 0 .b4 3#32) (withSpi { enabledSpi with tx := [1#32, 2#32], rx := [9#32, 9#32, 9#32, 9#32] })).map
        (fun p => (p.rx, p.tx, p.reg .sr, p.sent))
      = [([9#32, 9#32, 9#32, 9#32], [2#32, 3#32], 0x1300#32, [1#32])] := by decide

/-- R225: disabled, the word waits; with the TX FIFO full TEF is set and the word is dropped. -/
theorem test_spi_tdr_write_disabled_or_full :
    (spisAfter (.spiWrTdr 0 .b4 0xAA#32) State.reset).map (fun p => (p.rx, p.tx, p.reg .sr, p.sent))
      = [([], [0xAA#32], 0#32, [])] ∧
    (spisAfter (.spiWrTdr 0 .b4 0xAA#32) (withSpi { enabledSpi with tx := [1#32, 2#32, 3#32, 4#32] })).map
        (fun p => (p.rx, p.tx, p.reg .sr, p.sent)) = [([], [1#32, 2#32, 3#32, 4#32], 0x800#32, [])] := by decide

/-- R214, R222, R245: TDIE asserts at once; raising RXWATER above the occupancy deasserts RDF. -/
theorem test_spi_interrupt :
    (spisAfter (.spiWrIer 0 .b4 1#32) State.reset).map Spi.irq = [true] ∧
    ((withSpi { spi0 with regs := { spi0.regs with ier := 2#32 }, rx := [1#32] }).spis.map Spi.irq = [true]) ∧
    (spisAfter (.spiWrFcr 0 .b4 0x00010000#32)
        (withSpi { spi0 with regs := { spi0.regs with ier := 2#32 }, rx := [1#32] })).map Spi.irq = [false] := by decide

/-- R244: TIE asserts the UART line at once, RIE does not. -/
theorem test_uart_interrupt :
    (uartsAfter (.uartWrCtrl 0 .b4 0x00800000#32) State.reset).map Uart.irq = [true] ∧
    (uartsAfter (.uartWrCtrl 0 .b4 0x00200000#32) State.reset).map Uart.irq = [false] := by decide

/-- R41, R55, D4: a load of UART STAT and a store to SPI TDR at their addresses; a fetch presented as a read is the
load, one presented as a fetch is refused, and so is a hole. -/
theorem test_bus_requests :
    busRequest Config.ref (.load 0x14 4) = .ok { inst := 0, sel := 0x20000014#32, val := 0#32 } ∧
    busRequest Config.ref (.store 0x4064 4 0xAA) = .ok { inst := 0, sel := 0x61000064#32, val := 0xAA#32 } ∧
    busRequest Config.ref (.load 0x8000 4) = .error (.noDeviceAt 0x8000) ∧
    busRequest Config.ref (.fetch .asRead 0x14 4) = .ok { inst := 0, sel := 0x20000014#32, val := 0#32 } ∧
    busRequest Config.ref (.fetch .asFetch 0x14 4) = .error (.instructionFetch 0x14) := by decide

/-- R71: the text of operations. -/
theorem test_text :
    [(.uartRdStat 0 .b4 : Instr), .spiWrTdr 0 .b1 0xAA#32, .uartRdUnknown 0 .b2 0x34#24, .uartEvtRx 0 0x61#8,
      .spiEvtPor 0].map (Instr.text Config.ref)
      = ["rd.w uart0, STAT", "wr.b spi0, TDR, 0xAA", "rd.h uart0, 0x34", "rx uart0, 0x61", "por spi0"] := by decide

/-- The word placed by `withFetchWord` is the first operation a step from reset performs. -/
theorem test_fetch_word : ∃ t, step (State.reset.withFetchWord 32 0x20000014) = .next t
    ∧ t.reply = { value := some 0x00C00000#32, error := none } ∧ t.ops = [] := ⟨_, rfl, by decide⟩

/-! ## Witnesses: states and operands that meet the hypotheses of each statement, at the boundaries of its clauses -/

/-- A request of the reference configuration. -/
def req (sel val : Word) : Request := { inst := 0, sel := sel, val := val }

/-- The block with operations pending. -/
def withOps (ops : List Request) : State := { State.reset with ops := ops }

theorem witness_StepRunsTheDecodedOperation :
    ((withOps [req 0x20000014#32 0#32, req 0#32 0#32]).ops = req 0x20000014#32 0#32 :: [req 0#32 0#32] ∧
      decode Config.ref (req 0x20000014#32 0#32) = .ok (.uartRdStat 0 .b4)) ∧
    ((withOps [req 0xC0000000#32 0#32]).ops = req 0xC0000000#32 0#32 :: [] ∧
      decode Config.ref (req 0xC0000000#32 0#32) = .error .noSuchClass) ∧
    State.reset.ops = [] := by decide

theorem witness_DecodeOfEncodeIsTheOperation :
    Config.ref.wf = true ∧
    [(.uartRdVerid 0 .b1 : Instr), .uartWrTosr 0 .b4 0xFFFFFFFF#32, .uartWrData 0 .b1 0xFF#32, .spiRdRdror 0 .b4,
      .spiWrRdror 0 .b2 0xFFFF#32, .uartRdUnknown 0 .b1 0x3FFF#24, .spiWrUnknown 0 .b4 0x3FFC#24 0#32,
      .uartRdInvalid 0 none 0xFFFFFF#24, .spiWrInvalid 0 (some .b4) 0x3FFD#24 0xFFFFFFFF#32, .uartEvtRx 0 0xFF#8,
      .uartEvtPor 0, .uartEvtCanacc 0, .spiEvtPor 0].all (Instr.wellFormed Config.ref) = true := by decide

theorem witness_DecodedOperationsAreWellFormed :
    decode Config.ref (req 0x1F000000#32 0#32) = .error .noSuchKind ∧
    decode Config.ref (req 0x70FFFFFF#32 0xFFFFFFFF#32)
      = .ok (.uartWrInvalid 0 none 0xFFFFFF#24 0xFFFFFFFF#32) ∧
    decode Config.ref (req 0x01003FFF#32 0#32) = .ok (.spiRdUnknown 0 .b1 0x3FFF#24) := by decide

theorem witness_DecoderRefusesExactlyNonOperations :
    decode Config.ref (req 0x80000002#32 0#32) = .ok (.uartEvtCanacc 0) ∧
    decode Config.ref (req 0x81000002#32 0#32) = .error .noSuchEvent := by decide

theorem witness_InvalidAccessesAreDecodedBeforeAnyRow :
    decode Config.ref (req 0x30000014#32 0#32) = .ok (.uartRdInvalid 0 none 0x14#24) ∧
    decode Config.ref (req 0x20003FFC#32 0#32) = .ok (.uartRdUnknown 0 .b4 0x3FFC#24) ∧
    decode Config.ref (req 0x20004000#32 0#32) = .ok (.uartRdInvalid 0 (some .b4) 0x4000#24) ∧
    decode Config.ref (req 0x61000078#32 7#32) = .ok (.spiWrRdror 0 .b4 7#32) ∧
    ((.uartRdInvalid 0 none 0x14#24 : Instr).descriptor Config.ref).cls ≠ .evt ∧
    ((.uartRdUnknown 0 .b4 0x3FFC#24 : Instr).descriptor Config.ref).cls ≠ .evt ∧
    ((.spiWrRdror 0 .b4 7#32 : Instr).descriptor Config.ref).cls ≠ .evt := by decide

theorem witness_EveryStepKeepsTheInvariant :
    (withOps [req 0x61000064#32 0xAA#32]).Inv ∧ ∃ t, step (withOps [req 0x61000064#32 0xAA#32]) = .next t :=
  ⟨by decide, _, rfl⟩

theorem witness_ResetHasTheInvariant : Config.ref.wf = true ∧ (rdrorAt 0x3C#24).wf = true := by decide

theorem witness_ReachableStatesHaveTheInvariant :
    Config.ref.wf = true ∧ ∃ t, Reachable Config.ref t ∧ t.reply.value = some 0x00C00000#32 :=
  ⟨by decide, _, .step (.issue [req 0x20000014#32 0#32] .reset) rfl, by decide⟩

theorem witness_EveryOperationCompletes :
    State.reset.Inv ∧ (.spiWrTdr 0 .b4 0xFFFFFFFF#32 : Instr).wellFormed State.reset.cfg = true ∧
    (.uartRdInvalid 0 none 0#24 : Instr).wellFormed State.reset.cfg = true ∧
    (.uartEvtCanacc 0 : Instr).wellFormed State.reset.cfg = true := by decide

theorem witness_OperationsTouchOneInstanceOnly :
    (∃ t, exec (.uartWrCtrl 0 .b4 1#32) State.reset = .next t) ∧ ∃ t, exec (.spiWrTdr 0 .b4 1#32) State.reset = .next t :=
  ⟨⟨_, rfl⟩, _, rfl⟩

theorem witness_OperationsOnDifferentInstancesCommute :
    ((.uartWrCtrl 0 .b4 1#32 : Instr).descriptor Config.ref).kind
      ≠ ((.spiWrTdr 0 .b4 1#32 : Instr).descriptor Config.ref).kind ∧
    ∃ a b, exec (.uartWrCtrl 0 .b4 1#32) State.reset = .next a ∧ exec (.spiWrTdr 0 .b4 1#32) a = .next b :=
  ⟨by decide, _, _, rfl, rfl⟩

/-- Two UARTs: the other clause of the same hypothesis. -/
theorem witness_OperationsOnDifferentInstancesCommute_same_kind :
    ((.uartWrCtrl 0 .b4 1#32 : Instr).descriptor Config.ref).inst
      ≠ ((.uartEvtRx 1 2#8 : Instr).descriptor Config.ref).inst ∧
    ∃ a b, exec (.uartWrCtrl 0 .b4 1#32) { State.reset with uarts := [uart0, uart0] } = .next a ∧
      exec (.uartEvtRx 1 2#8) a = .next b := ⟨by decide, _, _, rfl, rfl⟩

theorem witness_OnlyDataAndRdrReadsHaveSideEffects :
    ((.spiRdRdror 0 .b4 : Instr).descriptor Config.ref).cls = .rd ∧
    (∀ n z, (.spiRdRdror 0 .b4 : Instr) ≠ .uartRdData n z) ∧ (∀ n z, (.spiRdRdror 0 .b4 : Instr) ≠ .spiRdRdr n z) ∧
    ∃ t, exec (.spiRdRdror 0 .b4) State.reset = .next t :=
  ⟨by decide, fun _ _ h => (nomatch h), fun _ _ h => (nomatch h), _, rfl⟩

theorem witness_GuestErrorsChangeNothing :
    (∃ t, exec (.uartRdUnknown 0 .b4 0x34#24) State.reset = .next t ∧ t.reply.error = some .unknownOffset) ∧
    ∃ t, exec (.spiWrRdr 0 .b4 1#32) State.reset = .next t ∧ t.reply.error = some .writeToReadOnly :=
  ⟨⟨_, rfl, rfl⟩, _, rfl, rfl⟩

/-- The reset block has the UART and the SPI that the statements on one operation ask for. -/
theorem witness_one_instance_of_each_kind :
    State.reset.uarts[0]? = some uart0 ∧ State.reset.spis[0]? = some spi0 := by decide

theorem witness_InvalidAccessesAreGuestErrors :
    State.reset.uarts[0]? = some uart0 ∧ State.reset.spis[0]? = some spi0 := witness_one_instance_of_each_kind

theorem witness_UnknownOffsetsAreGuestErrors :
    State.reset.uarts[0]? = some uart0 ∧ State.reset.spis[0]? = some spi0 := witness_one_instance_of_each_kind

theorem witness_AccessClassViolationsAreGuestErrors :
    State.reset.uarts[0]? = some uart0 ∧ State.reset.spis[0]? = some spi0 ∧
    ((.uartWrVerid 0 .b1 1#32 : Instr).descriptor State.reset.cfg).kind = .uart ∧
    ∃ t, exec (.uartWrVerid 0 .b1 1#32) State.reset = .next t := ⟨by decide, by decide, by decide, _, rfl⟩

theorem witness_MissingInstancesAreRefusedByName :
    (((.uartRdStat 1 .b4 : Instr).descriptor State.reset.cfg).kind = .uart ∧ State.reset.uarts[1]? = none) ∧
    ((.spiEvtPor 1 : Instr).descriptor State.reset.cfg).kind = .spi ∧ State.reset.spis[1]? = none := by decide

theorem witness_PlainReadsReturnTheStoredWord :
    State.reset.uarts[0]? = some uart0 ∧ State.reset.spis[0]? = some spi0 := witness_one_instance_of_each_kind

theorem witness_IdentificationReadsReturnConstants :
    State.reset.uarts[0]? = some uart0 ∧ State.reset.spis[0]? = some spi0 := witness_one_instance_of_each_kind

theorem witness_UartStatusReadsAreLive :
    (withUart { uart0 with tx := List.replicate 255 1#8 }).uarts[0]? = some { uart0 with tx := List.replicate 255 1#8 } ∧
    (List.replicate 255 1#8).length ≤ 255 :=
  ⟨rfl, Nat.le_of_eq List.length_replicate⟩

theorem witness_UartDataReadPopsTheOldestByte :
    (withUart { uart0 with rx := [1#8, 2#8] }).uarts[0]? = some { uart0 with rx := [1#8, 2#8] } ∧
    ({ uart0 with rx := [1#8, 2#8] } : Uart).rx = 1#8 :: [2#8] := by decide

theorem witness_UartDataReadUnderflowSetsRxuf : State.reset.uarts[0]? = some uart0 ∧ uart0.rx = [] := by decide

theorem witness_SpiStatusReadsAreLive :
    (withSpi { spi0 with tx := List.replicate 65535 1#32 }).spis[0]?
      = some { spi0 with tx := List.replicate 65535 1#32 } ∧
    (List.replicate 65535 1#32).length ≤ 65535 :=
  ⟨rfl, Nat.le_of_eq List.length_replicate⟩

theorem witness_SpiRdrReadPopsOrUnderflows :
    (withSpi { spi0 with rx := [1#32] }).spis[0]? = some { spi0 with rx := [1#32] } ∧
    ({ spi0 with rx := [1#32] } : Spi).rx = 1#32 :: [] ∧ State.reset.spis[0]? = some spi0 ∧ spi0.rx = [] := by decide

theorem witness_SpiRdrorPeeksWithoutEffect : State.reset.spis[0]? = some spi0 := by decide

theorem witness_PlainWritesStoreTheWholeWord :
    State.reset.uarts[0]? = some uart0 ∧ State.reset.spis[0]? = some spi0 := witness_one_instance_of_each_kind

theorem witness_UartGlobalWriteResetsOrStores :
    State.reset.uarts[0]? = some uart0 ∧ (3#32).getLsbD 0 = true ∧ (2#32).getLsbD 0 = false := by decide

theorem witness_UartStatWriteClearsErrorFlags : State.reset.uarts[0]? = some uart0 := by decide

theorem witness_UartCtrlWriteActsOnTransmitEnableEdges : State.reset.uarts[0]? = some uart0 := by decide

/-- Room for exactly one byte more, with and without bytes queued. -/
theorem witness_UartDataWriteSendsOneByte :
    ((withUart (uartWith 0x00080000#32 0#32 [])).uarts[0]? = some (uartWith 0x00080000#32 0#32 []) ∧
      ((uartWith 0x00080000#32 0#32 []).reg .ctrl).getLsbD 19 = true ∧
      (uartWith 0x00080000#32 0#32 []).tx.length < State.reset.cfg.uart.txCap ∧
      (uartWith 0x00080000#32 0#32 []).tx ++ [(0x141#32).setWidth 8] = 0x41#8 :: []) ∧
    ((withUart { uartWith 0x00080000#32 0#32 [] with tx := [1#8, 2#8, 3#8] }).uarts[0]?
        = some { uartWith 0x00080000#32 0#32 [] with tx := [1#8, 2#8, 3#8] } ∧
      [1#8, 2#8, 3#8].length < State.reset.cfg.uart.txCap ∧
      [1#8, 2#8, 3#8] ++ [(0x141#32).setWidth 8] = 1#8 :: [2#8, 3#8, 0x41#8]) := by decide

theorem witness_UartDataWriteOverflowsOrIsIgnored :
    (State.reset.uarts[0]? = some uart0 ∧ (uart0.reg .ctrl).getLsbD 19 = false) ∧
    ((withUart { uartWith 0x00080000#32 0#32 [] with tx := [1#8, 2#8, 3#8, 4#8] }).uarts[0]?
        = some { uartWith 0x00080000#32 0#32 [] with tx := [1#8, 2#8, 3#8, 4#8] } ∧
      (({ uartWith 0x00080000#32 0#32 [] with tx := [1#8, 2#8, 3#8, 4#8] } : Uart).reg .ctrl).getLsbD 19 = true ∧
      State.reset.cfg.uart.txCap ≤ [1#8, 2#8, 3#8, 4#8].length) := by decide

theorem witness_UartFifoWriteClearsStickyBits : State.reset.uarts[0]? = some uart0 := by decide

theorem witness_UartReceiveStoresOrOverruns : State.reset.uarts[0]? = some uart0 := by decide

theorem witness_CanAcceptAnswersReceiverAndRoom : State.reset.uarts[0]? = some uart0 := by decide

theorem witness_PowerOnResetsRestoreEverything :
    State.reset.uarts[0]? = some uart0 ∧ State.reset.spis[0]? = some spi0 := witness_one_instance_of_each_kind

theorem witness_ResetStatusAndInterruptsAreQuiet :
    Config.ref.wf = true ∧ uart0 ∈ State.reset.uarts ∧ spi0 ∈ State.reset.spis := by decide

theorem witness_SpiCrWriteResetsOrConfigures :
    State.reset.spis[0]? = some spi0 ∧ (2#32).getLsbD 1 = true ∧ (0x301#32).getLsbD 1 = false := by decide

theorem witness_SpiSrWriteClearsStickyFlags : State.reset.spis[0]? = some spi0 := by decide

theorem witness_SpiCfgr1WriteLatchesMaster : State.reset.spis[0]? = some spi0 := by decide

/-- Disabled with room for one word more; full and disabled; full and enabled. -/
theorem witness_SpiTdrWriteQueuesOrOverflows :
    ((withSpi { spi0 with tx := [1#32, 2#32, 3#32] }).spis[0]? = some { spi0 with tx := [1#32, 2#32, 3#32] } ∧
      ({ spi0 with tx := [1#32, 2#32, 3#32] } : Spi).enabled = false ∧
      [1#32, 2#32, 3#32].length < State.reset.cfg.spi.txCap) ∧
    ((withSpi { spi0 with tx := [1#32, 2#32, 3#32, 4#32] }).spis[0]?
        = some { spi0 with tx := [1#32, 2#32, 3#32, 4#32] } ∧
      (withSpi { enabledSpi with tx := [1#32, 2#32, 3#32, 4#32] }).spis[0]?
        = some { enabledSpi with tx := [1#32, 2#32, 3#32, 4#32] } ∧
      State.reset.cfg.spi.txCap ≤ [1#32, 2#32, 3#32, 4#32].length) := by decide

/-- Loopback with the queue empty, and with words left from Disabled writes. -/
theorem witness_SpiTdrWriteExchangesTheOldestWord :
    ((withSpi enabledSpi).spis[0]? = some enabledSpi ∧ enabledSpi.enabled = true ∧
      enabledSpi.tx.length < State.reset.cfg.spi.txCap ∧
      enabledSpi.tx ++ [zextSize .b4 0xAA#32] = 0xAA#32 :: [] ∧ peerOf State.reset.cfg 0 = .loopback) ∧
    ((withSpi { enabledSpi with tx := [1#32, 2#32, 3#32] }).spis[0]?
        = some { enabledSpi with tx := [1#32, 2#32, 3#32] } ∧
      [1#32, 2#32, 3#32].length < State.reset.cfg.spi.txCap ∧
      [1#32, 2#32, 3#32] ++ [zextSize .b1 0xAA#32] = 1#32 :: [2#32, 3#32, 0xAA#32]) := by decide

/-- A configuration whose SPI peer is no loopback: the clause with the free value. -/
def externalPeer : Config := spiCfg (fun c => { c with wiring := [{ base := 0x4000, irq := 1, peer := .external }] })

theorem witness_SpiTdrWriteExchangesTheOldestWord_external :
    externalPeer.wf = true ∧ peerOf externalPeer 0 = .external ∧
    ({ withSpi enabledSpi with cfg := externalPeer } : State).spis[0]? = some enabledSpi ∧
    enabledSpi.tx.length < externalPeer.spi.txCap := by decide

theorem witness_UartInterruptIsTheOrOfItsPairs : Config.ref.wf = true ∧ uart0.Inv Config.ref := by decide

theorem witness_SpiInterruptIsTheOrOfItsPairs : Config.ref.wf = true := by decide

theorem witness_RdrfGoesStaleOnlyByWatermarkWrites :
    State.reset.cfg.wf = true ∧ (∀ z val, (.uartEvtRx 0 1#8 : Instr) ≠ .uartWrWater 0 z val) ∧
    (uart0.reg .stat).getLsbD 21 = uart0.rdrfCalc ∧
    ∃ t v, exec (.uartEvtRx 0 1#8) State.reset = .next t ∧ State.reset.uarts[0]? = some uart0 ∧ t.uarts[0]? = some v :=
  ⟨by decide, fun _ _ h => (nomatch h), by decide, _, _, rfl, rfl, rfl⟩

theorem witness_EnabledSpiLeavesNoBacklog :
    (∃ t q, exec (.spiWrTdr 0 .b4 1#32) (withSpi enabledSpi) = .next t ∧ t.spis[0]? = some q ∧
      (withSpi enabledSpi).spis[0]? = some enabledSpi ∧ enabledSpi.enabled = true ∧ enabledSpi.tx = [] ∧
      1 ≤ (withSpi enabledSpi).cfg.spi.txCap) ∧
    ∃ t q, exec (.spiWrTdr 0 .b4 1#32) State.reset = .next t ∧ t.spis[0]? = some q ∧
      State.reset.spis[0]? = some spi0 ∧ spi0.tx.length < q.tx.length :=
  ⟨⟨_, _, rfl, rfl, by decide, by decide, by decide, by decide⟩, _, _, rfl, rfl, by decide, by decide⟩

theorem witness_SpiWordsAreConservedInOrder :
    ∃ t q, exec (.spiWrTdr 0 .b4 1#32) (withSpi { enabledSpi with tx := [5#32, 6#32] }) = .next t ∧
      (withSpi { enabledSpi with tx := [5#32, 6#32] }).spis[0]? = some { enabledSpi with tx := [5#32, 6#32] } ∧
      t.spis[0]? = some q := ⟨_, _, rfl, by decide, rfl⟩

theorem witness_UartBytesMoveOnlyAsTheStreamsSay :
    ∃ t v, exec (.uartRdData 0 .b4) (withUart { uart0 with rx := [1#8, 2#8] }) = .next t ∧
      (withUart { uart0 with rx := [1#8, 2#8] }).uarts[0]? = some { uart0 with rx := [1#8, 2#8] } ∧
      t.uarts[0]? = some v := ⟨_, _, rfl, by decide, rfl⟩

theorem witness_InertRegistersNeverMatter :
    (withUart { uart0 with regs := { uart0.regs with mcr := 5#32, global := 2#32 } }).eraseInert
      = State.reset.eraseInert ∧
    readsInert Config.ref (.uartRdStat 0 .b4) = false ∧
    (∃ t, exec (.uartRdStat 0 .b4) State.reset = .next t) ∧
    ∃ t, exec (.uartRdStat 0 .b4) (withUart { uart0 with regs := { uart0.regs with mcr := 5#32, global := 2#32 } })
      = .next t := ⟨by decide, by decide, ⟨_, rfl⟩, _, rfl⟩

/-- A buffer whose elements wrap round its end, a full one and an empty one. -/
theorem witness_RingBufferRefinesList :
    Ring.wf 3 ({ buf := [1#8, 2#8, 3#8], head := 2, tail := 1, count := 2 } : Ring 8) ∧
    Ring.wf 3 ({ buf := [1#8, 2#8, 3#8], head := 1, tail := 1, count := 3 } : Ring 8) ∧
    Ring.wf 1 ({ buf := [0#32], head := 0, tail := 0, count := 0 } : Ring 32) := by decide

theorem witness_SpiLoopbackRoundTrip :
    (withSpi enabledSpi).spis[0]? = some enabledSpi ∧ peerOf (withSpi enabledSpi).cfg 0 = .loopback ∧
    enabledSpi.enabled = true ∧ enabledSpi.tx = [] ∧ enabledSpi.rx = [] ∧
    1 ≤ (withSpi enabledSpi).cfg.spi.txCap ∧
    [0xAA#32, 0x55#32, 0x12#32, 0x34#32].length ≤ (withSpi enabledSpi).cfg.spi.rxCap := by decide

theorem witness_UartReceivedBytesAreReadInOrder :
    (withUart (uartWith 0x00040000#32 0#32 [])).uarts[0]? = some (uartWith 0x00040000#32 0#32 []) ∧
    (uartWith 0x00040000#32 0#32 []).re = true ∧ (uartWith 0x00040000#32 0#32 []).rx = [] := by decide

theorem witness_UartTransmittedBytesAppearInOrder :
    (withUart (uartWith 0x00080000#32 0#32 [])).uarts[0]? = some (uartWith 0x00080000#32 0#32 []) ∧
    (uartWith 0x00080000#32 0#32 []).te = true ∧ (uartWith 0x00080000#32 0#32 []).tx = [] ∧
    1 ≤ State.reset.cfg.uart.txCap := by decide

/-- The last byte of the UART region, the first and last of the SPI region, and the first address after both. -/
theorem witness_BusAccessesReachTheirRegister :
    Config.ref.wf = true ∧
    (Config.ref.uart.wiring[0]? = some { base := 0, irq := 0 } ∧ 0x3FFF < Config.ref.uart.regionSize) ∧
    (Config.ref.spi.wiring[0]? = some { base := 0x4000, irq := 1, peer := .loopback } ∧
      0 < Config.ref.spi.regionSize ∧ 0x3FFF < Config.ref.spi.regionSize) ∧
    (∀ g ∈ Config.ref.regions, ¬(g.1 ≤ 0x8000 ∧ 0x8000 < g.1 + g.2)) := by decide

theorem witness_FlushKeepsOrDropsEnable : State.reset.spis[0]? = some spi0 := by decide

/-- The highest offset of each region, 0x1C of the UART and 0x74 of the SPI, at each size. -/
theorem witness_BusAccessesRunTheirOperation :
    State.reset.cfg.wf = true ∧ State.reset.ops = [] ∧
    State.reset.cfg.uart.wiring[0]? = some { base := 0, irq := 0 } ∧
    State.reset.cfg.spi.wiring[0]? = some { base := 0x4000, irq := 1, peer := .loopback } ∧
    (0x3FFF < State.reset.cfg.uart.regionSize ∧ 0x3FFF < State.reset.cfg.spi.regionSize) ∧
    (0x001C = 0x0000 + 0x1C ∧ 0x1C < State.reset.cfg.uart.regionSize) ∧
    (0x4074 = 0x4000 + 0x74 ∧ 0x74 < State.reset.cfg.spi.regionSize) ∧
    1 = Size.bytes .b1 ∧ 2 = Size.bytes .b2 ∧ 4 = Size.bytes .b4 := by decide

/-- D4: a fetch of UART DATA presented as a read pops the RX FIFO, as a load does. -/
theorem test_fetch_as_read_pops_data :
    (match busIssue (.fetch .asRead 0x1C 1) (withUart { uart0 with rx := [0x61#8, 0x62#8] }) with
      | .next t => (match step t with
        | .next t' => (t'.reply.value, t'.uarts.map Uart.rx)
        | _ => (none, []))
      | _ => (none, [])) = (some 0x61#32, [[0x62#8]]) := by decide

/-- D4: a fetch of SPI RDR presented as a read pops the RX FIFO, as a load does. -/
theorem test_fetch_as_read_pops_rdr :
    (match busIssue (.fetch .asRead 0x4074 4) (withSpi { spi0 with rx := [0xAA#32, 0xBB#32] }) with
      | .next t => (match step t with
        | .next t' => (t'.reply.value, t'.spis.map Spi.rx)
        | _ => (none, []))
      | _ => (none, [])) = (some 0xAA#32, [[0xBB#32]]) := by decide

end Sys2Proof.Tests
end

section
/-!
PROOFS. What every rule of an operation keeps: the invariant of an instance as a condition on each stored word
(10_state.md rule R36), and one lemma per register rule that says the rule keeps it.
-/

namespace Sys2Proof

/-- A word is clear under a mask exactly when it is clear in every bit of the mask. -/
theorem and_eq_zero_iff {w m : Word} : w &&& m = 0#32 ↔ ∀ j, m.getLsbD j = true → w.getLsbD j = false := by
  constructor
  · intro h j hj
    have hbit : (w &&& m).getLsbD j = false := by rw [h, BitVec.getLsbD_zero]
    simpa [BitVec.getLsbD_and, hj] using hbit
  · intro h
    refine BitVec.eq_of_getLsbD_eq fun j _ => ?_
    rw [BitVec.getLsbD_and, BitVec.getLsbD_zero, Bool.and_eq_false_iff]
    cases hm : m.getLsbD j with
    | false => exact .inr rfl
    | true => exact .inl (h j hm)

/-- Setting a bit outside a mask leaves a word clear under it. -/
theorem setBit_and_eq_zero {w m : Word} {i : Nat} (b : Bool) (h : w &&& m = 0#32) (hi : m.getLsbD i = false) :
    setBit w i b &&& m = 0#32 := by
  refine and_eq_zero_iff.mpr fun j hj => ?_
  have hji : j ≠ i := fun e => by simp [e, hi] at hj
  rw [getLsbD_setBit, if_neg (fun hc => hji hc.1)]
  exact and_eq_zero_iff.mp h j hj

/-- A word clear under a mask is clear under every part of it. -/
theorem and_eq_zero_of_submask {w m n : Word} (h : w &&& m = 0#32) (hn : m &&& n = n) : w &&& n = 0#32 := by
  rw [← hn, ← BitVec.and_assoc, h, BitVec.zero_and]

/-- A byte placed in a register has no bit above the byte (R104). -/
theorem byteToWord_and_high (b : Byte) : byteToWord b &&& 0xFFFFFF00#32 = 0#32 := by
  refine and_eq_zero_iff.mpr fun j hj => ?_
  have hj8 : 8 ≤ j := by
    by_contra hlt
    interval_cases j <;> simp at hj
  unfold byteToWord
  rw [BitVec.getLsbD_setWidth, BitVec.getLsbD_of_ge b j hj8, Bool.and_false]

/-- What R36 (items 1 to 3 and 5) asks of the word stored in a UART register. -/
def UartReg.admits (r : UartReg) (w : Word) : Prop :=
  match r with
  | .global => w &&& 0x00000001#32 = 0#32
  | .stat => w &&& 0xFF17FFFF#32 = 0#32 ∧ w.getLsbD 23 = true
  | .fifo => w.getLsbD 17 = false
  | .data => w &&& 0xFFFFFF00#32 = 0#32
  | _ => True

/-- What R36 (items 2 and 4) asks of the word stored in an SPI register. -/
def SpiReg.admits (r : SpiReg) (w : Word) : Prop :=
  match r with
  | .cr => w &&& 0x00000302#32 = 0#32
  | .sr => w &&& ~~~0x00001F00#32 = 0#32
  | _ => True

/-! ## What an admissible configuration gives (R4, R33, R34) -/

theorem Config.wf_iff {c : Config} :
    c.wf = true ↔ c.uart.wf = true ∧ c.spi.wf = true ∧ pairwiseDisjoint c.regions = true := by
  simp [Config.wf, and_assoc]

/-- A UART's TX FIFO has room for a byte (R4). -/
theorem Config.uart_txCap_pos {c : Config} (hc : c.wf = true) : 0 < c.uart.txCap := by
  obtain ⟨hu, -, -⟩ := Config.wf_iff.mp hc
  simp only [UartConfig.wf, Bool.and_eq_true, decide_eq_true_eq] at hu
  omega

/-- Every reset word of a UART is one that R36 admits. -/
theorem Config.uart_reset_admits {c : Config} (hc : c.wf = true) (r : UartReg) : r.admits (c.uart.reset.get r) := by
  obtain ⟨hu, -, -⟩ := Config.wf_iff.mp hc
  simp only [UartConfig.wf, Bool.and_eq_true, beq_iff_eq] at hu
  obtain ⟨⟨⟨⟨⟨-, hstat⟩, hglobal⟩, -⟩, hdata⟩, hfifo⟩ := hu
  cases r with
  | global => exact and_eq_zero_of_submask hglobal rfl
  | stat =>
    change UartReg.admits .stat c.uart.reset.stat
    rw [hstat]
    exact ⟨rfl, rfl⟩
  | fifo => exact and_eq_zero_iff.mp hfifo 17 rfl
  | data => exact hdata
  | _ => exact trivial

/-- Every reset word of an SPI is one that R36 admits. -/
theorem Config.spi_reset_admits {c : Config} (hc : c.wf = true) (r : SpiReg) : r.admits (c.spi.reset.get r) := by
  obtain ⟨-, hp, -⟩ := Config.wf_iff.mp hc
  simp only [SpiConfig.wf, Bool.and_eq_true, beq_iff_eq] at hp
  obtain ⟨⟨⟨⟨⟨-, hcr⟩, hsr⟩, -⟩, -⟩, -⟩ := hp
  cases r with
  | cr => exact and_eq_zero_of_submask hcr rfl
  | sr =>
    change SpiReg.admits .sr c.spi.reset.sr
    rw [hsr]
    exact rfl
  | _ => exact trivial

namespace Machine

/-! ## UART rules -/

/-- The invariant of a UART: an empty TX FIFO, the RX bound, and every stored word admitted. -/
theorem Uart.inv_iff {c : Config} {u : Uart} :
    u.Inv c ↔ u.tx = [] ∧ u.rx.length ≤ c.uart.rxCap ∧ ∀ r : UartReg, r.admits (u.reg r) := by
  constructor
  · rintro ⟨htx, hrx, hglobal, hstat, htdre, hfifo, hdata⟩
    refine ⟨htx, hrx, fun r => ?_⟩
    cases r with
    | global => exact hglobal
    | stat => exact ⟨hstat, htdre⟩
    | fifo => exact hfifo
    | data => exact hdata
    | _ => exact trivial
  · rintro ⟨htx, hrx, hreg⟩
    obtain ⟨hstat, htdre⟩ := hreg .stat
    exact ⟨htx, hrx, hreg .global, hstat, htdre, hreg .fifo, hreg .data⟩

/-- Storing an admitted word keeps the invariant. -/
theorem Uart.Inv.setReg {c : Config} {u : Uart} (hu : u.Inv c) {r : UartReg} {w : Word} (hw : r.admits w) :
    (u.setReg r w).Inv c := by
  obtain ⟨htx, hrx, hreg⟩ := Uart.inv_iff.mp hu
  refine Uart.inv_iff.mpr ⟨htx, hrx, fun q => ?_⟩
  rw [Uart.reg_setReg]
  split
  · next h => rw [h]; exact hw
  · exact hreg q

/-- Setting a STAT bit that R36 lets vary keeps the invariant; TDRE may only be set to 1. -/
theorem Uart.Inv.setStatBit {c : Config} {u : Uart} (hu : u.Inv c) {i : Nat} {b : Bool}
    (hi : (0xFF17FFFF#32).getLsbD i = false) (htdre : b = true ∨ i ≠ 23) : (u.setRegBit .stat i b).Inv c := by
  obtain ⟨-, -, hreg⟩ := Uart.inv_iff.mp hu
  obtain ⟨hmask, h23⟩ := hreg .stat
  refine hu.setReg ⟨setBit_and_eq_zero b hmask hi, ?_⟩
  rw [getLsbD_setBit]
  split
  · next h => exact htdre.resolve_right (not_not_intro h.1.symm)
  · exact h23

/-- Replacing the RX FIFO within its capacity keeps the invariant. -/
theorem Uart.Inv.setRx {c : Config} {u : Uart} (hu : u.Inv c) {rx : List Byte} (hrx : rx.length ≤ c.uart.rxCap) :
    ({ u with rx := rx } : Uart).Inv c := by
  obtain ⟨htx, -, hreg⟩ := Uart.inv_iff.mp hu
  exact Uart.inv_iff.mpr ⟨htx, hrx, hreg⟩

/-- The reset of a UART (R161) establishes the invariant. -/
theorem Uart.resetAll_inv {c : Config} (hc : c.wf = true) (u : Uart) : (u.resetAll c).Inv c :=
  Uart.inv_iff.mpr ⟨rfl, Nat.zero_le _, Config.uart_reset_admits hc⟩

/-- The GLOBAL write (R142) keeps the invariant. -/
theorem Uart.Inv.writeGlobal {c : Config} (hc : c.wf = true) {u : Uart} (hu : u.Inv c) (w : Word) :
    (u.writeGlobal c w).Inv c := by
  unfold Uart.writeGlobal
  split
  · exact Uart.resetAll_inv hc u
  · next hrst =>
    refine hu.setReg (and_eq_zero_iff.mpr fun j hj => ?_)
    obtain rfl : j = 0 := by simpa [BitVec.getLsbD_one] using hj
    exact Bool.eq_false_of_not_eq_true hrst

/-- The STAT write (R145) keeps the invariant. -/
theorem Uart.Inv.writeStat {c : Config} {u : Uart} (hu : u.Inv c) (w : Word) : (u.writeStat w).Inv c := by
  obtain ⟨-, -, hreg⟩ := Uart.inv_iff.mp hu
  obtain ⟨hmask, h23⟩ := hreg .stat
  refine hu.setReg ⟨clearOnes_and_eq_zero _ _ _ _ hmask, ?_⟩
  rw [getLsbD_clearOnes, h23]
  simp

/-- The CTRL write (R146) keeps the invariant. -/
theorem Uart.Inv.writeCtrl {c : Config} {u : Uart} (hu : u.Inv c) (w : Word) : (u.writeCtrl w).Inv c := by
  have hstored : (u.setReg .ctrl w).Inv c := hu.setReg trivial
  have hrising : (if !u.te && w.getLsbD 19 then
      ((u.setReg .ctrl w).setRegBit .stat 23 true).setRegBit .stat 22 false else u.setReg .ctrl w).Inv c := by
    split
    · exact (hstored.setStatBit rfl (.inl rfl)).setStatBit rfl (.inr (by decide))
    · exact hstored
  unfold Uart.writeCtrl
  dsimp only
  split
  · exact hrising.setStatBit rfl (.inr (by decide))
  · exact hrising

/-- The DATA write (R147) keeps the invariant: the byte pushed on the empty TX FIFO is the byte sent. -/
theorem Uart.Inv.writeData {c : Config} (hc : c.wf = true) {u : Uart} (hu : u.Inv c) (w : Word) :
    (u.writeData c w).Inv c := by
  obtain ⟨htx, hrx, hreg⟩ := Uart.inv_iff.mp hu
  have hpush : fifoPush c.uart.txCap u.tx (lowByte w) = (true, [lowByte w]) := by
    rw [htx]; exact fifoPush_room _ (Config.uart_txCap_pos hc)
  have hsent : (({ u with tx := [] } : Uart).send (lowByte w)).Inv c := Uart.inv_iff.mpr ⟨rfl, hrx, hreg⟩
  unfold Uart.writeData
  split
  · simp only [hpush, if_true, fifoPop_cons]
    exact (hsent.setStatBit rfl (.inl (by simp [Uart.tdreCalc]))).setStatBit rfl (.inr (by decide))
  · exact hu

/-- The FIFO write (R150) keeps the invariant: a clear TXOF stays clear. -/
theorem Uart.Inv.writeFifo {c : Config} {u : Uart} (hu : u.Inv c) (w : Word) : (u.writeFifo w).Inv c := by
  obtain ⟨-, -, hreg⟩ := Uart.inv_iff.mp hu
  have htxof : (u.reg .fifo).getLsbD 17 = false := hreg .fifo
  refine hu.setReg (show BitVec.getLsbD _ 17 = false from ?_)
  simp only [BitVec.getLsbD_or, BitVec.getLsbD_and, htxof, Bool.false_and, Bool.or_false]
  rw [show (~~~0x00030000#32).getLsbD 17 = false from rfl, Bool.and_false]

/-- The DATA read (R117) keeps the invariant. -/
theorem Uart.Inv.readData {c : Config} {u : Uart} (hu : u.Inv c) : u.readData.1.Inv c := by
  obtain ⟨-, hrx, hreg⟩ := Uart.inv_iff.mp hu
  have hpop : ({ u with rx := (fifoPop u.rx).2.2 } : Uart).Inv c := hu.setRx ((fifoPop_length_le u.rx).trans hrx)
  refine Uart.Inv.setStatBit ?_ rfl (.inr (by decide))
  split
  · exact hpop.setReg (byteToWord_and_high _)
  · have hzero := hpop.setReg (r := .data) (w := 0#32) rfl
    refine hzero.setReg (show BitVec.getLsbD _ 17 = false from ?_)
    rw [getLsbD_setBit, if_neg (by decide)]
    exact hreg .fifo

/-- The receive callback (R170) keeps the invariant. -/
theorem Uart.Inv.onReceive {c : Config} {u : Uart} (hu : u.Inv c) (b : Byte) : (u.onReceive c b).Inv c := by
  obtain ⟨-, hrx, -⟩ := Uart.inv_iff.mp hu
  refine Uart.Inv.setStatBit ?_ rfl (.inr (by decide))
  split
  · split
    · exact hu.setRx (fifoPush_length_le b hrx)
    · exact hu.setStatBit rfl (.inr (by decide))
  · exact hu

/-! ## SPI rules -/

/-- The invariant of an SPI: both FIFO bounds, and every stored word admitted. -/
theorem Spi.inv_iff {c : Config} {p : Spi} :
    p.Inv c ↔ p.tx.length ≤ c.spi.txCap ∧ p.rx.length ≤ c.spi.rxCap ∧ ∀ r : SpiReg, r.admits (p.reg r) := by
  constructor
  · rintro ⟨htx, hrx, hcr, hsr⟩
    refine ⟨htx, hrx, fun r => ?_⟩
    cases r with
    | cr => exact hcr
    | sr => exact hsr
    | _ => exact trivial
  · rintro ⟨htx, hrx, hreg⟩
    exact ⟨htx, hrx, hreg .cr, hreg .sr⟩

/-- Storing an admitted word keeps the invariant. -/
theorem Spi.Inv.setReg {c : Config} {p : Spi} (hp : p.Inv c) {r : SpiReg} {w : Word} (hw : r.admits w) :
    (p.setReg r w).Inv c := by
  obtain ⟨htx, hrx, hreg⟩ := Spi.inv_iff.mp hp
  refine Spi.inv_iff.mpr ⟨htx, hrx, fun q => ?_⟩
  rw [Spi.reg_setReg]
  split
  · next h => rw [h]; exact hw
  · exact hreg q

/-- Setting a sticky SR bit keeps the invariant. -/
theorem Spi.Inv.setSrBit {c : Config} {p : Spi} (hp : p.Inv c) {i : Nat} (b : Bool)
    (hi : (~~~0x00001F00#32).getLsbD i = false) : (p.setRegBit .sr i b).Inv c := by
  obtain ⟨-, -, hreg⟩ := Spi.inv_iff.mp hp
  exact hp.setReg (setBit_and_eq_zero b (hreg .sr) hi)

/-- With the stored words kept, bounded FIFOs are all the invariant asks. -/
theorem Spi.Inv.of_regs_eq {c : Config} {p q : Spi} (hp : p.Inv c) (hregs : q.regs = p.regs)
    (htx : q.tx.length ≤ c.spi.txCap) (hrx : q.rx.length ≤ c.spi.rxCap) : q.Inv c := by
  obtain ⟨-, -, hreg⟩ := Spi.inv_iff.mp hp
  refine Spi.inv_iff.mpr ⟨htx, hrx, fun r => ?_⟩
  rw [← Spi.regs_get, hregs]
  exact hreg r

/-- The soft reset of an SPI (R230) establishes the invariant. -/
theorem Spi.softReset_inv {c : Config} (hc : c.wf = true) (p : Spi) : (p.softReset c).Inv c :=
  Spi.inv_iff.mpr ⟨Nat.zero_le _, Nat.zero_le _, Config.spi_reset_admits hc⟩

/-- The power-on reset of an SPI (R260) establishes the invariant. -/
theorem Spi.powerOn_inv {c : Config} (hc : c.wf = true) (p : Spi) : (p.powerOn c).Inv c :=
  (Spi.softReset_inv hc p).of_regs_eq rfl (Nat.zero_le _) (Nat.zero_le _)

/-- The CR write (R212) keeps the invariant: the action bits are stored as 0. -/
theorem Spi.Inv.writeCr {c : Config} (hc : c.wf = true) {p : Spi} (hp : p.Inv c) (w : Word) :
    (p.writeCr c w).Inv c := by
  obtain ⟨htx, hrx, -⟩ := Spi.inv_iff.mp hp
  have hcr : SpiReg.admits .cr (w &&& ~~~0x00000302#32) := by
    change w &&& ~~~0x00000302#32 &&& 0x00000302#32 = 0#32
    rw [BitVec.and_assoc]
    exact BitVec.and_zero
  have hstored := hp.setReg hcr
  unfold Spi.writeCr
  split
  · exact Spi.softReset_inv hc p
  · dsimp only
    split <;> split
    · exact hstored.of_regs_eq rfl (Nat.zero_le _) (Nat.zero_le _)
    · exact hstored.of_regs_eq rfl htx (Nat.zero_le _)
    · exact hstored.of_regs_eq rfl (Nat.zero_le _) hrx
    · exact hstored.of_regs_eq rfl htx hrx

/-- The SR write (R213) keeps the invariant. -/
theorem Spi.Inv.writeSr {c : Config} {p : Spi} (hp : p.Inv c) (w : Word) : (p.writeSr w).Inv c := by
  obtain ⟨-, -, hreg⟩ := Spi.inv_iff.mp hp
  exact hp.setReg (clearOnes_and_eq_zero _ _ _ _ (hreg .sr))

/-- The CFGR1 write (R217) keeps the invariant. -/
theorem Spi.Inv.writeCfgr1 {c : Config} {p : Spi} (hp : p.Inv c) (w : Word) : (p.writeCfgr1 w).Inv c := by
  obtain ⟨htx, hrx, -⟩ := Spi.inv_iff.mp hp
  exact (hp.setReg (r := .cfgr1) (w := w) trivial).of_regs_eq rfl htx hrx

/-- The RDR read (R197) keeps the invariant. -/
theorem Spi.Inv.readRdr {c : Config} {p : Spi} (hp : p.Inv c) : p.readRdr.1.Inv c := by
  obtain ⟨htx, hrx, -⟩ := Spi.inv_iff.mp hp
  have hpop : ({ p with rx := (fifoPop p.rx).2.2 } : Spi).Inv c :=
    hp.of_regs_eq rfl htx ((fifoPop_length_le p.rx).trans hrx)
  unfold Spi.readRdr
  dsimp only
  split
  · exact hpop
  · exact hpop.setSrBit true rfl

/-- A transfer cycle (R231) with a word queued keeps the invariant. -/
theorem Spi.Inv.transferCycle {c : Config} {p : Spi} (hp : p.Inv c) (inst : Nat) (hqueued : p.tx ≠ []) :
    (p.transferCycle c inst).Inv c := by
  obtain ⟨htx, hrx, hreg⟩ := Spi.inv_iff.mp hp
  obtain ⟨e, rest, heq⟩ := List.exists_cons_of_ne_nil hqueued
  obtain ⟨htx', -, hrx', -, -, hother, hsr⟩ := transferCycle_spec c inst p e rest heq
  refine Spi.inv_iff.mpr ⟨?_, ?_, fun r => ?_⟩
  · rw [heq, List.length_cons] at htx
    rw [htx']
    omega
  · rw [hrx']
    exact fifoPush_length_le _ hrx
  · by_cases hr : r = .sr
    · subst hr
      refine and_eq_zero_iff.mpr fun j hj => ?_
      rw [hsr, if_neg]
      · exact and_eq_zero_iff.mp (hreg .sr) j hj
      · rintro (rfl | rfl | ⟨rfl, -⟩ | ⟨rfl, -⟩) <;> simp at hj
    · rw [hother r hr]
      exact hreg r

/-- The TDR write (R225) keeps the invariant. -/
theorem Spi.Inv.writeTdr {c : Config} {p : Spi} (hp : p.Inv c) (inst : Nat) (w : Word) :
    (p.writeTdr c inst w).Inv c := by
  obtain ⟨htx, hrx, -⟩ := Spi.inv_iff.mp hp
  have hpush : ({ p with tx := (fifoPush c.spi.txCap p.tx w).2 } : Spi).Inv c :=
    hp.of_regs_eq rfl (fifoPush_length_le w htx) hrx
  unfold Spi.writeTdr
  rcases fifoPush_cases c.spi.txCap p.tx w with ⟨-, hroom⟩ | ⟨-, hfull⟩
  · rw [hroom] at hpush ⊢
    simp only [if_true]
    split
    · exact hpush.transferCycle inst (by simp)
    · exact hpush
  · rw [hfull] at hpush ⊢
    exact hpush.setSrBit true rfl

end Machine

end Sys2Proof
end

section
/-!
PROOFS. Every operation runs one lawful rule on the one instance its descriptor names; from this: what an operation
leaves unchanged (20_memory.md rule R51), when it is refused (00_scope.md rule R1), and that it completes, keeps the
invariant and answers exactly when it is a read or query (R5).
-/

namespace Sys2Proof

/-- The operation hands back a result: a bus read or `can_accept` (R5). -/
def Instr.hasResult (c : Config) (i : Instr) : Bool :=
  match i with
  | .uartEvtCanacc _ => true
  | i => decide ((i.descriptor c).cls = .rd)

theorem Instr.hasResult_iff (c : Config) (i : Instr) :
    i.hasResult c = true ↔ (i.descriptor c).cls = .rd ∨ i = .uartEvtCanacc (i.descriptor c).inst := by
  unfold Instr.hasResult
  split
  · exact iff_of_true rfl (.inr rfl)
  · next hne => rw [decide_eq_true_eq, or_iff_left (hne _)]

/-- A well-formed operation names an instance that the configuration counts (R1). -/
theorem Instr.inst_lt_count {c : Config} {i : Instr} (h : i.wellFormed c = true) :
    (i.descriptor c).inst < c.count (i.descriptor c).kind := by
  unfold Instr.wellFormed Descriptor.wellFormed at h
  rw [Bool.and_eq_true, decide_eq_true_eq] at h
  exact h.1

namespace Machine

/-- A rule of a UART operation that keeps the invariant (R36) and hands back a result exactly when `answers` holds. -/
structure LawfulUart (c : Config) (answers : Bool) (rule : Uart → Uart × Reply) : Prop where
  keeps : ∀ u, u.Inv c → (rule u).1.Inv c
  result : ∀ u, (rule u).2.value.isSome = answers

/-- A rule of an SPI operation that keeps the invariant (R36) and hands back a result exactly when `answers` holds. -/
structure LawfulSpi (c : Config) (answers : Bool) (rule : Spi → Spi × Reply) : Prop where
  keeps : ∀ p, p.Inv c → (rule p).1.Inv c
  result : ∀ p, (rule p).2.value.isSome = answers

/-- `exec i s` performs a lawful rule on the instance that `i` names. -/
def RunsLawfulRule (i : Instr) (s : State) : Prop :=
  ((i.descriptor s.cfg).kind = .uart ∧ ∃ rule, exec i s = onUart (i.descriptor s.cfg).inst rule s ∧
    LawfulUart s.cfg (i.hasResult s.cfg) rule) ∨
  ((i.descriptor s.cfg).kind = .spi ∧ ∃ rule, exec i s = onSpi (i.descriptor s.cfg).inst rule s ∧
    LawfulSpi s.cfg (i.hasResult s.cfg) rule)

/-- Under an admissible configuration every operation performs a lawful rule: most look at the instance only or end in
a guest error, the plain writes store a word that R36 leaves free, and each other rule has its own lemma above. -/
theorem exec_runs_lawful_rule (i : Instr) {s : State} (hc : s.cfg.wf = true) : RunsLawfulRule i s := by
  cases i with
  | uartRdVerid | uartRdParam | uartRdGlobal | uartRdPincfg | uartRdBaud | uartRdStat | uartRdCtrl | uartRdMatch
  | uartRdModir | uartRdFifo | uartRdWater | uartRdDataro | uartRdMcr | uartRdMsr | uartRdReir | uartRdTeir
  | uartRdHdcr | uartRdTocr | uartRdTosr | uartRdUnknown | uartRdInvalid | uartWrVerid | uartWrParam | uartWrDataro
  | uartWrUnknown | uartWrInvalid | uartEvtCanacc => exact .inl ⟨rfl, _, rfl, fun _ hu => hu, fun _ => rfl⟩
  | uartWrPincfg | uartWrBaud | uartWrMatch | uartWrModir | uartWrWater | uartWrMcr | uartWrMsr | uartWrReir
  | uartWrTeir | uartWrHdcr | uartWrTocr | uartWrTosr =>
    exact .inl ⟨rfl, _, rfl, fun _ hu => hu.setReg trivial, fun _ => rfl⟩
  | uartRdData => exact .inl ⟨rfl, _, rfl, fun _ hu => hu.readData, fun _ => rfl⟩
  | uartWrGlobal => exact .inl ⟨rfl, _, rfl, fun _ hu => hu.writeGlobal hc _, fun _ => rfl⟩
  | uartWrStat => exact .inl ⟨rfl, _, rfl, fun _ hu => hu.writeStat _, fun _ => rfl⟩
  | uartWrCtrl => exact .inl ⟨rfl, _, rfl, fun _ hu => hu.writeCtrl _, fun _ => rfl⟩
  | uartWrData => exact .inl ⟨rfl, _, rfl, fun _ hu => hu.writeData hc _, fun _ => rfl⟩
  | uartWrFifo => exact .inl ⟨rfl, _, rfl, fun _ hu => hu.writeFifo _, fun _ => rfl⟩
  | uartEvtPor => exact .inl ⟨rfl, _, rfl, fun u _ => u.resetAll_inv hc, fun _ => rfl⟩
  | uartEvtRx _ b => exact .inl ⟨rfl, _, rfl, fun _ hu => hu.onReceive b, fun _ => rfl⟩
  | spiRdVerid | spiRdParam | spiRdCr | spiRdSr | spiRdIer | spiRdDer | spiRdCfgr0 | spiRdCfgr1 | spiRdDmr0
  | spiRdDmr1 | spiRdCcr | spiRdCcr1 | spiRdFcr | spiRdFsr | spiRdTcr | spiRdTdr | spiRdRsr | spiRdRdror
  | spiRdUnknown | spiRdInvalid | spiWrVerid | spiWrParam | spiWrFsr | spiWrRsr | spiWrRdr | spiWrRdror
  | spiWrUnknown | spiWrInvalid => exact .inr ⟨rfl, _, rfl, fun _ hp => hp, fun _ => rfl⟩
  | spiWrIer | spiWrDer | spiWrCfgr0 | spiWrDmr0 | spiWrDmr1 | spiWrCcr | spiWrCcr1 | spiWrFcr | spiWrTcr =>
    exact .inr ⟨rfl, _, rfl, fun _ hp => hp.setReg trivial, fun _ => rfl⟩
  | spiRdRdr => exact .inr ⟨rfl, _, rfl, fun _ hp => hp.readRdr, fun _ => rfl⟩
  | spiWrCr => exact .inr ⟨rfl, _, rfl, fun _ hp => hp.writeCr hc _, fun _ => rfl⟩
  | spiWrSr => exact .inr ⟨rfl, _, rfl, fun _ hp => hp.writeSr _, fun _ => rfl⟩
  | spiWrCfgr1 => exact .inr ⟨rfl, _, rfl, fun _ hp => hp.writeCfgr1 _, fun _ => rfl⟩
  | spiWrTdr => exact .inr ⟨rfl, _, rfl, fun _ hp => hp.writeTdr _ _, fun _ => rfl⟩
  | spiEvtPor => exact .inr ⟨rfl, _, rfl, fun p _ => p.powerOn_inv hc, fun _ => rfl⟩

/-- An operation changes at most the one instance its descriptor names, and the reply (R51). -/
theorem exec_changes_one_instance {i : Instr} {s t : State} (h : exec i s = .next t) :
    ((i.descriptor s.cfg).kind = .uart ∧ ∃ u, OnlyUart (i.descriptor s.cfg).inst u s t) ∨
    ((i.descriptor s.cfg).kind = .spi ∧ ∃ p, OnlySpi (i.descriptor s.cfg).inst p s t) := by
  rcases exec_acts_on_one_instance i s.cfg with ⟨hk, rule, hrule⟩ | ⟨hk, rule, hrule⟩ <;> rw [hrule s rfl] at h
  · obtain ⟨u, hu, rfl⟩ := onUart_inv h
    exact .inl ⟨hk, _, onlyUart_set _ _ hu⟩
  · obtain ⟨p, hp, rfl⟩ := onSpi_inv h
    exact .inr ⟨hk, _, onlySpi_set _ _ hp⟩

/-- No operation changes the configuration (R4, R35). -/
theorem exec_cfg {i : Instr} {s t : State} (h : exec i s = .next t) : t.cfg = s.cfg := by
  rcases exec_changes_one_instance h with ⟨-, u, hcfg, -⟩ | ⟨-, p, hcfg, -⟩ <;> exact hcfg

/-- No operation changes the pending ones (log 5). -/
theorem exec_ops {i : Instr} {s t : State} (h : exec i s = .next t) : t.ops = s.ops := by
  rcases exec_changes_one_instance h with ⟨-, u, -, hops, -⟩ | ⟨-, p, -, hops, -⟩ <;> exact hops

/-- In a state that holds the instances its configuration counts, a well-formed operation answers a next state (R5). -/
theorem exec_completes {i : Instr} {s : State} (huarts : s.uarts.length = s.cfg.count .uart)
    (hspis : s.spis.length = s.cfg.count .spi) (hwf : i.wellFormed s.cfg = true) : ∃ t, exec i s = .next t := by
  have hinst := Instr.inst_lt_count hwf
  rcases exec_acts_on_one_instance i s.cfg with ⟨hk, rule, hrule⟩ | ⟨hk, rule, hrule⟩ <;> rw [hk] at hinst
  · rw [← huarts] at hinst
    exact ⟨_, (hrule s rfl).trans (onUart_next rule (List.getElem?_eq_getElem hinst))⟩
  · rw [← hspis] at hinst
    exact ⟨_, (hrule s rfl).trans (onSpi_next rule (List.getElem?_eq_getElem hinst))⟩

/-- Replacing one element by another of which `P` holds keeps `P` of all. -/
theorem forall_mem_set {α : Type} {P : α → Prop} {l : List α} {n : Nat} {x : α} (hl : ∀ y ∈ l, P y) (hx : P x) :
    ∀ y ∈ l.set n x, P y := by
  intro y hy
  rcases List.mem_or_eq_of_mem_set hy with hmem | rfl
  · exact hl y hmem
  · exact hx

/-- Every operation that answers a next state keeps the invariant (R36). -/
theorem exec_inv {i : Instr} {s t : State} (hs : s.Inv) (h : exec i s = .next t) : t.Inv := by
  obtain ⟨hc, huarts, hspis, hus, hps⟩ := hs
  rcases exec_runs_lawful_rule i hc with ⟨-, rule, hrule, hlaw⟩ | ⟨-, rule, hrule, hlaw⟩ <;> rw [hrule] at h
  · obtain ⟨u, hu, rfl⟩ := onUart_inv h
    have hu' := hlaw.keeps u (hus u (List.mem_of_getElem? hu))
    exact ⟨hc, List.length_set.trans huarts, hspis, forall_mem_set hus hu', hps⟩
  · obtain ⟨p, hp, rfl⟩ := onSpi_inv h
    have hp' := hlaw.keeps p (hps p (List.mem_of_getElem? hp))
    exact ⟨hc, huarts, List.length_set.trans hspis, hus, forall_mem_set hps hp'⟩

/-- An operation that answers a next state hands back a result exactly when it is a read or query (R5). -/
theorem exec_result {i : Instr} {s t : State} (hc : s.cfg.wf = true) (h : exec i s = .next t) :
    t.reply.value.isSome = i.hasResult s.cfg := by
  rcases exec_runs_lawful_rule i hc with ⟨-, rule, hrule, hlaw⟩ | ⟨-, rule, hrule, hlaw⟩ <;> rw [hrule] at h
  · obtain ⟨u, -, rfl⟩ := onUart_inv h
    exact hlaw.result u
  · obtain ⟨p, -, rfl⟩ := onSpi_inv h
    exact hlaw.result p

end Machine

end Sys2Proof

namespace Sys2Proof.Proofs

open Sys2Proof.Machine

/-- Settles O18: an operation runs on the instance of its kind and index, and a missing one is refused. -/
theorem missingInstancesAreRefusedByName : Obligations.MissingInstancesAreRefusedByName := by
  intro i s
  rcases exec_acts_on_one_instance i s.cfg with ⟨hk, rule, hrule⟩ | ⟨hk, rule, hrule⟩ <;> rw [hk, hrule s rfl]
  · exact ⟨fun _ => onUart_none rule, nofun⟩
  · exact ⟨nofun, fun _ => onSpi_none rule⟩

/-- Settles O11: the frame of the one instance the operation acts on. -/
theorem operationsTouchOneInstanceOnly : Obligations.OperationsTouchOneInstanceOnly := by
  intro i s t h
  rcases exec_changes_one_instance h with ⟨hk, u, hcfg, hops, hspis, hlen, -, hother⟩ |
    ⟨hk, p, hcfg, hops, huarts, hlen, -, hother⟩
  · exact ⟨hcfg, hops, hlen, by rw [hspis], fun j hj => hother j (hj hk).symm, fun j _ => by rw [hspis]⟩
  · exact ⟨hcfg, hops, by rw [huarts], hlen, fun j _ => by rw [huarts], fun j hj => hother j (hj hk).symm⟩

/-- Settles O10: a well-formed operation finds its instance, and the rule it performs there is lawful. -/
theorem everyOperationCompletes : Obligations.EveryOperationCompletes := by
  intro s i hs hwf
  have ⟨hc, huarts, hspis, _, _⟩ := hs
  obtain ⟨t, ht⟩ := exec_completes huarts hspis hwf
  refine ⟨t, ht, exec_inv hs ht, exec_cfg ht, exec_ops ht, ?_⟩
  rw [exec_result hc ht]
  exact Instr.hasResult_iff s.cfg i

end Sys2Proof.Proofs
end

section
/-!
PROOFS. The invariant of reachable states (10_state.md rule R36) along every run: it holds after the power-on reset
(rules R33, R34), and a step keeps it, because performing an operation does (`exec_inv`).
-/

namespace Sys2Proof.Machine

/-- A UART right after construction has the invariant (R33). -/
theorem Uart.afterReset_inv {c : Config} (hc : c.wf = true) : (Uart.afterReset c).Inv c :=
  Uart.inv_iff.mpr ⟨rfl, Nat.zero_le _, Config.uart_reset_admits hc⟩

/-- An SPI right after construction has the invariant (R34). -/
theorem Spi.afterReset_inv {c : Config} (hc : c.wf = true) : (Spi.afterReset c).Inv c :=
  Spi.inv_iff.mpr ⟨Nat.zero_le _, Nat.zero_le _, Config.spi_reset_admits hc⟩

/-- The block right after construction has the invariant, whatever its admissible configuration (R36). -/
theorem State.resetOf_inv {c : Config} (hc : c.wf = true) : (State.resetOf c).Inv := by
  refine ⟨hc, List.length_replicate, List.length_replicate, fun u hu => ?_, fun p hp => ?_⟩
  · rw [List.eq_of_mem_replicate hu]
    exact Uart.afterReset_inv hc
  · rw [List.eq_of_mem_replicate hp]
    exact Spi.afterReset_inv hc

/-- The pending operations play no part in the invariant. -/
theorem State.Inv.withOps {s : State} (hs : s.Inv) (ops : List Request) : ({ s with ops := ops } : State).Inv := hs

/-- A step that answers a next state keeps the invariant (R36). -/
theorem step_inv {s t : State} (hs : s.Inv) (h : step s = .next t) : t.Inv := by
  rcases step_cases h with ⟨-, rfl⟩ | ⟨r, rest, i, -, -, hexec⟩
  · exact hs
  · exact exec_inv (hs.withOps rest) hexec

/-- No step changes the configuration (R4, R35). -/
theorem step_cfg {s t : State} (h : step s = .next t) : t.cfg = s.cfg := by
  rcases step_cases h with ⟨-, rfl⟩ | ⟨r, rest, i, -, -, hexec⟩
  · rfl
  · exact (exec_cfg hexec :)

/-- Every reachable state has the configuration it was built with (R35). -/
theorem Reachable.cfg_eq {c : Config} {s : State} (h : Reachable c s) : s.cfg = c := by
  induction h with
  | reset => rfl
  | issue ops _ ih => exact ih
  | step _ hstep ih => exact (step_cfg hstep).trans ih

/-- Every reachable state of an admissible configuration has the invariant (R36). -/
theorem Reachable.inv {c : Config} (hc : c.wf = true) {s : State} (h : Reachable c s) : s.Inv := by
  induction h with
  | reset => exact State.resetOf_inv hc
  | issue ops _ ih => exact ih.withOps ops
  | step _ hstep ih => exact step_inv ih hstep

end Sys2Proof.Machine

namespace Sys2Proof.Proofs

open Sys2Proof.Machine

/-- Settles O8: every reset word is one that R36 admits, and CFG_REF is admissible. -/
theorem resetHasTheInvariant : Obligations.ResetHasTheInvariant :=
  have href : Config.ref.wf = true := by decide
  ⟨fun _ hc => State.resetOf_inv hc, href, State.resetOf_inv href⟩

/-- Settles O7: a step performs at most one operation, and every operation keeps the invariant. -/
theorem everyStepKeepsTheInvariant : Obligations.EveryStepKeepsTheInvariant :=
  fun _ _ hs h => step_inv hs h

/-- Settles O9, by induction on how the state was reached. -/
theorem reachableStatesHaveTheInvariant : Obligations.ReachableStatesHaveTheInvariant :=
  fun _ _ hc h => ⟨h.inv hc, h.cfg_eq⟩

end Sys2Proof.Proofs
end

section
/-!
PROOFS. The rule each operation performs on its instance, classified: an operation answers only, stores a plain word,
or follows one of the few register rules that do more. Two classifications, `UartRule` and `SpiRule`, and one case
split over the ninety operations (`exec_performs_rule`); what follows of an instance over an operation then needs a
case per rule.
-/

namespace Sys2Proof.Machine

/-- `UartRule c i rule`: what operation `i` may do to its UART instance under configuration `c`. An answer that looks
at an inert register is one that `readsInert` counts. -/
inductive UartRule (c : Config) : Instr → (Uart → Uart × Reply) → Prop
  /-- A read without side effect, the query, or a guest error. -/
  | answer {i : Instr} (reply : Uart → Reply)
      (blind : readsInert c i = false → ∀ u, reply u = reply u.eraseInert) : UartRule c i fun u => (u, reply u)
  /-- A plain write (R98) other than to WATER. -/
  | store {i : Instr} (r : UartReg) (w : Word) (plain : r ∉ [.global, .stat, .ctrl, .data, .fifo, .water]) :
      UartRule c i fun u => (u.setReg r w, .done)
  /-- The WATER write (R151). -/
  | storeWater (n : Nat) (z : Size) (val : Word) :
      UartRule c (.uartWrWater n z val) fun u => (u.setReg .water (zextSize z val), .done)
  | readData (n : Nat) (z : Size) :
      UartRule c (.uartRdData n z) fun u => (u.readData.1, .ofValue (truncSize z u.readData.2))
  | writeGlobal (n : Nat) (z : Size) (val : Word) :
      UartRule c (.uartWrGlobal n z val) fun u => (u.writeGlobal c (zextSize z val), .done)
  | writeStat (n : Nat) (z : Size) (val : Word) :
      UartRule c (.uartWrStat n z val) fun u => (u.writeStat (zextSize z val), .done)
  | writeCtrl (n : Nat) (z : Size) (val : Word) :
      UartRule c (.uartWrCtrl n z val) fun u => (u.writeCtrl (zextSize z val), .done)
  | writeData (n : Nat) (z : Size) (val : Word) :
      UartRule c (.uartWrData n z val) fun u => (u.writeData c (zextSize z val), .done)
  | writeFifo (n : Nat) (z : Size) (val : Word) :
      UartRule c (.uartWrFifo n z val) fun u => (u.writeFifo (zextSize z val), .done)
  | powerOn (n : Nat) : UartRule c (.uartEvtPor n) fun u => (u.resetAll c, .done)
  | receive (n : Nat) (b : Byte) : UartRule c (.uartEvtRx n b) fun u => (u.onReceive c b, .done)

/-- `SpiRule c i rule`: what operation `i` may do to its SPI instance under configuration `c`. -/
inductive SpiRule (c : Config) : Instr → (Spi → Spi × Reply) → Prop
  /-- A read without side effect, or a guest error. -/
  | answer {i : Instr} (reply : Spi → Reply)
      (blind : readsInert c i = false → ∀ p, reply p = reply p.eraseInert) : SpiRule c i fun p => (p, reply p)
  /-- A plain write (R98). -/
  | store {i : Instr} (r : SpiReg) (w : Word) : SpiRule c i fun p => (p.setReg r w, .done)
  | readRdr (n : Nat) (z : Size) :
      SpiRule c (.spiRdRdr n z) fun p => (p.readRdr.1, .ofValue (truncSize z p.readRdr.2))
  | writeCr (n : Nat) (z : Size) (val : Word) :
      SpiRule c (.spiWrCr n z val) fun p => (p.writeCr c (zextSize z val), .done)
  | writeSr (n : Nat) (z : Size) (val : Word) :
      SpiRule c (.spiWrSr n z val) fun p => (p.writeSr (zextSize z val), .done)
  | writeCfgr1 (n : Nat) (z : Size) (val : Word) :
      SpiRule c (.spiWrCfgr1 n z val) fun p => (p.writeCfgr1 (zextSize z val), .done)
  | writeTdr (n : Nat) (z : Size) (val : Word) :
      SpiRule c (.spiWrTdr n z val) fun p => (p.writeTdr c n (zextSize z val), .done)
  | powerOn (n : Nat) : SpiRule c (.spiEvtPor n) fun p => (p.powerOn c, .done)

/-- Every operation performs one of the rules above on the instance it names, and the rule depends on the
configuration only: the one case split over the ninety operations. -/
theorem exec_performs_rule (i : Instr) (c : Config) :
    ((i.descriptor c).kind = .uart ∧ ∃ rule, (∀ s : State, exec i { s with cfg := c }
      = onUart (i.descriptor c).inst rule { s with cfg := c }) ∧ UartRule c i rule) ∨
    ((i.descriptor c).kind = .spi ∧ ∃ rule, (∀ s : State, exec i { s with cfg := c }
      = onSpi (i.descriptor c).inst rule { s with cfg := c }) ∧ SpiRule c i rule) := by
  cases i with
  | uartRdVerid _ z =>
    exact .inl ⟨rfl, _, fun _ => rfl, .answer (fun _ => .ofValue (truncSize z c.uart.verid)) fun _ _ => rfl⟩
  | uartRdParam _ z =>
    exact .inl ⟨rfl, _, fun _ => rfl, .answer (fun _ => .ofValue (truncSize z c.uart.param)) fun _ _ => rfl⟩
  | uartEvtCanacc =>
    exact .inl ⟨rfl, _, fun _ => rfl, .answer (fun u => .ofValue (b2w (u.canAccept c))) fun _ _ => rfl⟩
  | uartRdStat | uartRdCtrl | uartRdFifo | uartRdWater | uartRdDataro | uartRdUnknown | uartRdInvalid | uartWrVerid
  | uartWrParam | uartWrDataro | uartWrUnknown | uartWrInvalid =>
    exact .inl ⟨rfl, _, fun _ => rfl, .answer _ fun _ _ => rfl⟩
  | uartRdGlobal | uartRdPincfg | uartRdBaud | uartRdMatch | uartRdModir | uartRdMcr | uartRdMsr | uartRdReir
  | uartRdTeir | uartRdHdcr | uartRdTocr | uartRdTosr =>
    exact .inl ⟨rfl, _, fun _ => rfl, .answer _ nofun⟩
  | uartWrPincfg | uartWrBaud | uartWrMatch | uartWrModir | uartWrMcr | uartWrMsr | uartWrReir | uartWrTeir
  | uartWrHdcr | uartWrTocr | uartWrTosr => exact .inl ⟨rfl, _, fun _ => rfl, .store _ _ (by decide)⟩
  | uartWrWater => exact .inl ⟨rfl, _, fun _ => rfl, .storeWater _ _ _⟩
  | uartRdData => exact .inl ⟨rfl, _, fun _ => rfl, .readData _ _⟩
  | uartWrGlobal => exact .inl ⟨rfl, _, fun _ => rfl, .writeGlobal _ _ _⟩
  | uartWrStat => exact .inl ⟨rfl, _, fun _ => rfl, .writeStat _ _ _⟩
  | uartWrCtrl => exact .inl ⟨rfl, _, fun _ => rfl, .writeCtrl _ _ _⟩
  | uartWrData => exact .inl ⟨rfl, _, fun _ => rfl, .writeData _ _ _⟩
  | uartWrFifo => exact .inl ⟨rfl, _, fun _ => rfl, .writeFifo _ _ _⟩
  | uartEvtPor => exact .inl ⟨rfl, _, fun _ => rfl, .powerOn _⟩
  | uartEvtRx => exact .inl ⟨rfl, _, fun _ => rfl, .receive _ _⟩
  | spiRdVerid _ z =>
    exact .inr ⟨rfl, _, fun _ => rfl, .answer (fun _ => .ofValue (truncSize z c.spi.verid)) fun _ _ => rfl⟩
  | spiRdParam _ z =>
    exact .inr ⟨rfl, _, fun _ => rfl, .answer (fun _ => .ofValue (truncSize z c.spi.param)) fun _ _ => rfl⟩
  | spiRdCr | spiRdSr | spiRdIer | spiRdFcr | spiRdFsr | spiRdTdr | spiRdRsr | spiRdRdror | spiRdUnknown
  | spiRdInvalid | spiWrVerid | spiWrParam | spiWrFsr | spiWrRsr | spiWrRdr | spiWrRdror | spiWrUnknown
  | spiWrInvalid => exact .inr ⟨rfl, _, fun _ => rfl, .answer _ fun _ _ => rfl⟩
  | spiRdDer | spiRdCfgr0 | spiRdCfgr1 | spiRdDmr0 | spiRdDmr1 | spiRdCcr | spiRdCcr1 | spiRdTcr =>
    exact .inr ⟨rfl, _, fun _ => rfl, .answer _ nofun⟩
  | spiWrIer | spiWrDer | spiWrCfgr0 | spiWrDmr0 | spiWrDmr1 | spiWrCcr | spiWrCcr1 | spiWrFcr | spiWrTcr =>
    exact .inr ⟨rfl, _, fun _ => rfl, .store _ _⟩
  | spiRdRdr => exact .inr ⟨rfl, _, fun _ => rfl, .readRdr _ _⟩
  | spiWrCr => exact .inr ⟨rfl, _, fun _ => rfl, .writeCr _ _ _⟩
  | spiWrSr => exact .inr ⟨rfl, _, fun _ => rfl, .writeSr _ _ _⟩
  | spiWrCfgr1 => exact .inr ⟨rfl, _, fun _ => rfl, .writeCfgr1 _ _ _⟩
  | spiWrTdr => exact .inr ⟨rfl, _, fun _ => rfl, .writeTdr _ _ _⟩
  | spiEvtPor => exact .inr ⟨rfl, _, fun _ => rfl, .powerOn _⟩

/-- Over an operation a UART instance stays as it is, or the operation names it and follows one of the UART rules. -/
theorem exec_uart_cases {i : Instr} {s t : State} {n : Nat} {u v : Uart} (h : exec i s = .next t)
    (hu : s.uarts[n]? = some u) (hv : t.uarts[n]? = some v) :
    v = u ∨ (i.descriptor s.cfg).inst = n ∧ ∃ rule, UartRule s.cfg i rule ∧ v = (rule u).1 := by
  rcases exec_performs_rule i s.cfg with ⟨-, rule, hexec, hrule⟩ | ⟨-, rule, hexec, -⟩
  · obtain ⟨u', hu', rfl⟩ := onUart_inv ((hexec s).symm.trans h)
    obtain ⟨-, -, -, -, hself, hother⟩ := onlyUart_set (rule u').1 (rule u').2 hu'
    by_cases hn : n = (i.descriptor s.cfg).inst
    · subst hn
      obtain rfl : u' = u := Option.some.inj (hu'.symm.trans hu)
      exact .inr ⟨rfl, rule, hrule, Option.some.inj (hv.symm.trans hself)⟩
    · exact .inl (Option.some.inj (hv.symm.trans ((hother n hn).trans hu)))
  · obtain ⟨p, -, rfl⟩ := onSpi_inv ((hexec s).symm.trans h)
    exact .inl (Option.some.inj (hv.symm.trans hu))

/-- Over an operation an SPI instance stays as it is, or the operation names it and follows one of the SPI rules. -/
theorem exec_spi_cases {i : Instr} {s t : State} {n : Nat} {p q : Spi} (h : exec i s = .next t)
    (hp : s.spis[n]? = some p) (hq : t.spis[n]? = some q) :
    q = p ∨ (i.descriptor s.cfg).inst = n ∧ ∃ rule, SpiRule s.cfg i rule ∧ q = (rule p).1 := by
  rcases exec_performs_rule i s.cfg with ⟨-, rule, hexec, -⟩ | ⟨-, rule, hexec, hrule⟩
  · obtain ⟨u, -, rfl⟩ := onUart_inv ((hexec s).symm.trans h)
    exact .inl (Option.some.inj (hq.symm.trans hp))
  · obtain ⟨p', hp', rfl⟩ := onSpi_inv ((hexec s).symm.trans h)
    obtain ⟨-, -, -, -, hself, hother⟩ := onlySpi_set (rule p').1 (rule p').2 hp'
    by_cases hn : n = (i.descriptor s.cfg).inst
    · subst hn
      obtain rfl : p' = p := Option.some.inj (hp'.symm.trans hp)
      exact .inr ⟨rfl, rule, hrule, Option.some.inj (hq.symm.trans hself)⟩
    · exact .inl (Option.some.inj (hq.symm.trans ((hother n hn).trans hp)))

end Sys2Proof.Machine
end

section
/-!
PROOFS. The items of 10_state.md rule R36 that tie two parts of an instance together: the stored RDRF and the RX
occupancy of a UART (item 7, with 70_reset_and_hazards.md rule R269), the enable flag and the TX FIFO of an SPI
(item 6).
-/

namespace Sys2Proof

/-- Under an admissible configuration STAT resets to TDRE and TC alone (R33). -/
theorem Config.uart_reset_stat {c : Config} (hc : c.wf = true) : c.uart.reset.stat = 0x00C00000#32 := by
  obtain ⟨hu, -, -⟩ := Config.wf_iff.mp hc
  simp only [UartConfig.wf, Bool.and_eq_true, beq_iff_eq] at hu
  obtain ⟨⟨⟨⟨⟨-, hstat⟩, -⟩, -⟩, -⟩, -⟩ := hu
  exact hstat

namespace Machine

/-! ## The stored RDRF of a UART (R36 item 7) -/

/-- The stored RDRF (STAT 21) is what the occupancy and the watermark make of it (R36 item 7). -/
def Uart.RdrfFresh (u : Uart) : Prop := (u.reg .stat).getLsbD 21 = u.rdrfCalc

/-- RDRF stays fresh where bit 21 of STAT, the watermarks and the RX FIFO stay. -/
theorem Uart.RdrfFresh.of_eq {u v : Uart} (hu : u.RdrfFresh)
    (hstat : (v.reg .stat).getLsbD 21 = (u.reg .stat).getLsbD 21) (hwater : v.reg .water = u.reg .water)
    (hrx : v.rx = u.rx) : v.RdrfFresh := by
  unfold Uart.RdrfFresh Uart.rdrfCalc Uart.rxWater at *
  rw [hstat, hwater, hrx, hu]

/-- A rule that ends by re-deriving RDRF leaves it fresh (R117, R170). -/
theorem Uart.rdrfFresh_rederive (u : Uart) : (u.setRegBit .stat 21 u.rdrfCalc).RdrfFresh := by
  unfold Uart.RdrfFresh
  rw [Uart.reg_setRegBit, if_pos rfl, getLsbD_setBit, if_pos (by decide)]
  rfl

/-- Setting another STAT bit keeps RDRF fresh. -/
theorem Uart.RdrfFresh.setStatBit {u : Uart} (hu : u.RdrfFresh) {i : Nat} (hi : i ≠ 21) (b : Bool) :
    (u.setRegBit .stat i b).RdrfFresh := by
  refine hu.of_eq ?_ rfl rfl
  rw [Uart.reg_setRegBit, if_pos rfl, getLsbD_setBit, if_neg fun h => hi h.1.symm]

/-- Storing a register other than STAT and WATER keeps RDRF fresh. -/
theorem Uart.RdrfFresh.setReg {u : Uart} (hu : u.RdrfFresh) {r : UartReg} (w : Word) (hstat : r ≠ .stat)
    (hwater : r ≠ .water) : (u.setReg r w).RdrfFresh := by
  refine hu.of_eq ?_ ?_ rfl
  · rw [Uart.reg_setReg, if_neg hstat.symm]
  · rw [Uart.reg_setReg, if_neg hwater.symm]

/-- A reset leaves RDRF clear and the RX FIFO empty (R161). -/
theorem Uart.rdrfFresh_resetAll {c : Config} (hc : c.wf = true) (u : Uart) : (u.resetAll c).RdrfFresh := by
  have hstat : (u.resetAll c).reg .stat = 0x00C00000#32 := Config.uart_reset_stat hc
  unfold Uart.RdrfFresh Uart.rdrfCalc
  rw [hstat, Uart.resetAll_rx]
  exact (decide_eq_false (Nat.not_lt_zero _)).symm

/-- The STAT write (R145) does not reach RDRF. -/
theorem Uart.RdrfFresh.writeStat {u : Uart} (hu : u.RdrfFresh) (w : Word) : (u.writeStat w).RdrfFresh := by
  refine hu.of_eq ?_ rfl rfl
  change (clearOnes (u.reg .stat) w 0x000F0000#32).getLsbD 21 = (u.reg .stat).getLsbD 21
  rw [getLsbD_clearOnes, show (0x000F0000#32).getLsbD 21 = false from rfl, Bool.and_false, Bool.not_false, Bool.and_true]

/-- The CTRL write (R146) sets TDRE and TC only. -/
theorem Uart.RdrfFresh.writeCtrl {u : Uart} (hu : u.RdrfFresh) (w : Word) : (u.writeCtrl w).RdrfFresh := by
  have hstored : (u.setReg .ctrl w).RdrfFresh := hu.setReg w (by decide) (by decide)
  have hrising : (if !u.te && w.getLsbD 19 then
      ((u.setReg .ctrl w).setRegBit .stat 23 true).setRegBit .stat 22 false else u.setReg .ctrl w).RdrfFresh := by
    split
    · exact (hstored.setStatBit (by decide) _).setStatBit (by decide) _
    · exact hstored
  unfold Uart.writeCtrl
  dsimp only
  split
  · exact hrising.setStatBit (by decide) _
  · exact hrising

/-- The DATA write (R147) sets TDRE, TC and TXOF only and leaves the RX FIFO alone. -/
theorem Uart.RdrfFresh.writeData {u : Uart} (hu : u.RdrfFresh) (c : Config) (w : Word) :
    (u.writeData c w).RdrfFresh := by
  unfold Uart.writeData
  split
  · refine Uart.RdrfFresh.setStatBit (Uart.RdrfFresh.setStatBit ?_ (by decide) _) (by decide) _
    dsimp only
    split
    · exact hu.of_eq rfl rfl rfl
    · exact hu.of_eq rfl rfl rfl
  · exact hu

/-- Every UART rule keeps RDRF fresh, but for the WATER write, which re-derives no flag (R269). -/
theorem UartRule.rdrfFresh {c : Config} (hc : c.wf = true) {i : Instr} {rule : Uart → Uart × Reply}
    (h : UartRule c i rule) (hwater : ∀ z val, i ≠ .uartWrWater (i.descriptor c).inst z val) {u : Uart}
    (hu : u.RdrfFresh) : (rule u).1.RdrfFresh := by
  cases h with
  | answer => exact hu
  | store r w plain => exact hu.setReg w (by rintro rfl; simp at plain) (by rintro rfl; simp at plain)
  | storeWater n z val => exact absurd rfl (hwater z val)
  | readData => exact Uart.rdrfFresh_rederive _
  | writeGlobal n z val =>
    change (Uart.writeGlobal c (zextSize z val) u).RdrfFresh
    unfold Uart.writeGlobal
    split
    · exact Uart.rdrfFresh_resetAll hc u
    · exact hu.setReg _ (by decide) (by decide)
  | writeStat => exact hu.writeStat _
  | writeCtrl => exact hu.writeCtrl _
  | writeData => exact hu.writeData c _
  | writeFifo => exact hu.setReg _ (by decide) (by decide)
  | powerOn => exact Uart.rdrfFresh_resetAll hc u
  | receive => exact Uart.rdrfFresh_rederive _

/-! ## The TX FIFO of an SPI (R36 item 6) -/

/-- A transfer cycle takes the oldest word off the TX FIFO (R231). -/
theorem Spi.transferCycle_tx (c : Config) (n : Nat) {p : Spi} (hqueued : p.tx ≠ []) :
    (p.transferCycle c n).tx = p.tx.tail := by
  obtain ⟨e, rest, heq⟩ := List.exists_cons_of_ne_nil hqueued
  obtain ⟨htx, -⟩ := transferCycle_spec c n p e rest heq
  rw [htx, heq, List.tail_cons]

/-- A TDR write to an enabled SPI leaves its backlog as long as it was: what is pushed, one cycle makes room for
(R225), and a full FIFO drops the word. -/
theorem Spi.writeTdr_tx_length (c : Config) (n : Nat) (w : Word) {p : Spi} (henabled : p.enabled = true) :
    (p.writeTdr c n w).tx.length = p.tx.length := by
  unfold Spi.writeTdr
  rcases fifoPush_cases c.spi.txCap p.tx w with ⟨-, hroom⟩ | ⟨-, hfull⟩
  · simp only [hroom, henabled, if_true]
    rw [Spi.transferCycle_tx c n (by simp), List.length_tail, List.length_append, List.length_singleton,
      Nat.add_sub_cancel]
  · simp [hfull]

/-- The CR write (R212) keeps the TX FIFO or empties it. -/
theorem Spi.writeCr_tx (c : Config) (w : Word) (p : Spi) :
    (p.writeCr c w).tx = p.tx ∨ (p.writeCr c w).tx = [] := by
  unfold Spi.writeCr
  split
  · exact .inr rfl
  · dsimp only
    split <;> split
    · exact .inr rfl
    · exact .inl rfl
    · exact .inr rfl
    · exact .inl rfl

/-- The RDR read (R197) leaves the TX FIFO alone. -/
theorem Spi.readRdr_tx (p : Spi) : p.readRdr.1.tx = p.tx := by
  unfold Spi.readRdr
  dsimp only
  split <;> rfl

/-- Every SPI rule but the TDR write keeps the TX FIFO or empties it. -/
theorem SpiRule.tx_cases {c : Config} {i : Instr} {rule : Spi → Spi × Reply} (h : SpiRule c i rule) (p : Spi) :
    ((rule p).1.tx = p.tx ∨ (rule p).1.tx = []) ∨
      ∃ n z val, i = .spiWrTdr n z val ∧ (rule p).1 = p.writeTdr c n (zextSize z val) := by
  cases h with
  | answer | store | writeSr | writeCfgr1 => exact .inl (.inl rfl)
  | readRdr => exact .inl (.inl p.readRdr_tx)
  | writeCr n z val => exact .inl (p.writeCr_tx c (zextSize z val))
  | writeTdr n z val => exact .inr ⟨n, z, val, rfl, rfl⟩
  | powerOn => exact .inl (.inr rfl)

/-- Over any operation the TX FIFO of an SPI grows only by a TDR write to it while it is disabled. -/
theorem exec_spi_tx_grows {i : Instr} {s t : State} {n : Nat} {p q : Spi} (h : exec i s = .next t)
    (hp : s.spis[n]? = some p) (hq : t.spis[n]? = some q) :
    q.tx.length ≤ p.tx.length ∨ p.enabled = false ∧ ∃ z val, i = .spiWrTdr n z val := by
  rcases exec_spi_cases h hp hq with rfl | ⟨rfl, rule, hrule, rfl⟩
  · exact .inl le_rfl
  · rcases hrule.tx_cases p with (htx | htx) | ⟨m, z, val, rfl, htdr⟩
    · exact .inl (by rw [htx])
    · exact .inl (by rw [htx]; exact Nat.zero_le _)
    · cases henabled : p.enabled with
      | true => exact .inl (by rw [htdr, Spi.writeTdr_tx_length s.cfg m _ henabled])
      | false => exact .inr ⟨rfl, z, val, rfl⟩

end Machine

end Sys2Proof

namespace Sys2Proof.Proofs

open Sys2Proof.Machine

/-- Settles O46: every other rule leaves what RDRF depends on alone, re-derives RDRF, or resets. -/
theorem rdrfGoesStaleOnlyByWatermarkWrites : Obligations.RdrfGoesStaleOnlyByWatermarkWrites := by
  intro i s t n u v hc hwater h hu hv hfresh
  rcases exec_uart_cases h hu hv with rfl | ⟨rfl, rule, hrule, rfl⟩
  · exact hfresh
  · exact hrule.rdrfFresh hc hwater hfresh

/-- Settles O47: a TX FIFO that does not grow stays empty, and it grows only while the SPI is disabled. -/
theorem enabledSpiLeavesNoBacklog : Obligations.EnabledSpiLeavesNoBacklog := by
  intro i s t n p q h hp hq
  rcases exec_spi_tx_grows h hp hq with hle | ⟨hdisabled, htdr⟩
  · refine ⟨fun _ htx _ => ?_, fun hgrows => absurd hgrows (Nat.not_lt.mpr hle)⟩
    rw [htx] at hle
    exact List.eq_nil_of_length_eq_zero (Nat.le_zero.mp hle)
  · exact ⟨fun henabled => absurd henabled (by simp [hdisabled]), fun _ => ⟨hdisabled, htdr⟩⟩

end Sys2Proof.Proofs
end

section
/-!
PROOFS. Noninterference of the inert registers (10_state.md rules R14, R18, R25, R29): blanking them
(`State.eraseInert`) commutes with every rule, so an operation answers the same from two states that differ there only.
-/

namespace Sys2Proof.Machine

/-! ## Blanking a UART -/

@[simp] theorem Uart.eraseInert_tx (u : Uart) : u.eraseInert.tx = u.tx := rfl
@[simp] theorem Uart.eraseInert_rx (u : Uart) : u.eraseInert.rx = u.rx := rfl
@[simp] theorem Uart.eraseInert_te (u : Uart) : u.eraseInert.te = u.te := rfl
@[simp] theorem Uart.eraseInert_re (u : Uart) : u.eraseInert.re = u.re := rfl

/-- Blanking what is already blanked changes nothing. -/
theorem Uart.eraseInert_eq_of_blanked {u v : Uart} (h : u.eraseInert = v) : u.eraseInert = v.eraseInert := by
  subst h
  rfl

/-- A write to a register that is not blanked commutes with blanking the others. -/
@[simp] theorem Uart.eraseInert_setReg_live {r : UartReg} (u : Uart) (w : Word)
    (live : r ∈ [.stat, .ctrl, .data, .fifo, .water]) : (u.setReg r w).eraseInert = u.eraseInert.setReg r w := by
  simp only [List.mem_cons, List.not_mem_nil, or_false] at live
  rcases live with rfl | rfl | rfl | rfl | rfl <;> rfl

/-- A write to one bit of such a register does too. -/
@[simp] theorem Uart.eraseInert_setRegBit_live {r : UartReg} (u : Uart) (i : Nat) (b : Bool)
    (live : r ∈ [.stat, .ctrl, .data, .fifo, .water]) :
    (u.setRegBit r i b).eraseInert = u.eraseInert.setRegBit r i b := by
  simp only [List.mem_cons, List.not_mem_nil, or_false] at live
  rcases live with rfl | rfl | rfl | rfl | rfl <;> rfl

/-- A write to any register agrees with the same write to the blanked instance, once that register is blanked too. -/
theorem Uart.eraseInert_setReg (u : Uart) (r : UartReg) (w : Word) :
    (u.setReg r w).eraseInert = (u.eraseInert.setReg r w).eraseInert := by cases r <;> rfl

/-- The GLOBAL write (R142) does not see the inert registers. -/
theorem Uart.eraseInert_writeGlobal (c : Config) (w : Word) (u : Uart) :
    (u.writeGlobal c w).eraseInert = (u.eraseInert.writeGlobal c w).eraseInert := by
  unfold Uart.writeGlobal
  split
  · rfl
  · exact u.eraseInert_setReg .global w

/-- The CTRL write (R146) commutes with blanking: it looks at CTRL and the TX FIFO only. -/
theorem Uart.eraseInert_writeCtrl (w : Word) (u : Uart) : (u.writeCtrl w).eraseInert = u.eraseInert.writeCtrl w := by
  simp [Uart.writeCtrl, apply_ite Uart.eraseInert]

/-- The DATA write (R147) commutes with blanking, whether the FIFO has room or not and whatever TE is. -/
theorem Uart.eraseInert_writeData (c : Config) (w : Word) (u : Uart) :
    (u.writeData c w).eraseInert = u.eraseInert.writeData c w := by
  rcases fifoPush_cases c.uart.txCap u.tx (lowByte w) with ⟨-, hpush⟩ | ⟨-, hpush⟩ <;>
    cases hte : u.te <;> simp [Uart.writeData, hpush, hte] <;> rfl

/-- The receive callback (R170) commutes with blanking, whether the FIFO has room or not and whatever RE is. -/
theorem Uart.eraseInert_onReceive (c : Config) (b : Byte) (u : Uart) :
    (u.onReceive c b).eraseInert = u.eraseInert.onReceive c b := by
  rcases fifoPush_cases c.uart.rxCap u.rx b with ⟨-, hpush⟩ | ⟨-, hpush⟩ <;>
    cases hre : u.re <;> simp [Uart.onReceive, hpush, hre] <;> rfl

/-- The DATA read (R117) of the blanked instance is the blanked DATA read, with the same answer. -/
theorem Uart.readData_eraseInert (u : Uart) : u.eraseInert.readData = (u.readData.1.eraseInert, u.readData.2) := by
  unfold Uart.readData
  rw [Uart.eraseInert_rx]
  cases u.rx <;> rfl

/-- No UART rule sees the inert registers: the next instance is the same but for them. -/
theorem UartRule.eraseInert_next {c : Config} {i : Instr} {rule : Uart → Uart × Reply} (h : UartRule c i rule)
    (u : Uart) : (rule u).1.eraseInert = (rule u.eraseInert).1.eraseInert := by
  cases h with
  | answer | powerOn | writeStat | writeFifo => rfl
  | store r w => exact u.eraseInert_setReg r w
  | storeWater => exact u.eraseInert_setReg .water _
  | readData => exact congrArg (fun x => x.1.eraseInert) u.readData_eraseInert.symm
  | writeGlobal => exact u.eraseInert_writeGlobal c _
  | writeCtrl => exact Uart.eraseInert_eq_of_blanked (u.eraseInert_writeCtrl _)
  | writeData => exact Uart.eraseInert_eq_of_blanked (u.eraseInert_writeData c _)
  | receive n b => exact Uart.eraseInert_eq_of_blanked (u.eraseInert_onReceive c b)

/-- The reply of a UART operation depends on the inert registers only where it reads one. -/
theorem UartRule.eraseInert_reply {c : Config} {i : Instr} {rule : Uart → Uart × Reply} (h : UartRule c i rule)
    (hread : readsInert c i = false) (u : Uart) : (rule u).2 = (rule u.eraseInert).2 := by
  cases h with
  | answer reply blind => exact blind hread u
  | readData n z => exact congrArg (fun x => Reply.ofValue (truncSize z x.2)) u.readData_eraseInert.symm
  | _ => rfl

/-! ## Blanking an SPI -/

@[simp] theorem Spi.eraseInert_tx (p : Spi) : p.eraseInert.tx = p.tx := rfl
@[simp] theorem Spi.eraseInert_rx (p : Spi) : p.eraseInert.rx = p.rx := rfl
@[simp] theorem Spi.eraseInert_sent (p : Spi) : p.eraseInert.sent = p.sent := rfl
@[simp] theorem Spi.eraseInert_enabled (p : Spi) : p.eraseInert.enabled = p.enabled := rfl

/-- Blanking what is already blanked changes nothing. -/
theorem Spi.eraseInert_eq_of_blanked {p q : Spi} (h : p.eraseInert = q) : p.eraseInert = q.eraseInert := by
  subst h
  rfl

/-- A write to one bit of SR commutes with blanking. -/
@[simp] theorem Spi.eraseInert_setSrBit (p : Spi) (i : Nat) (b : Bool) :
    (p.setRegBit .sr i b).eraseInert = p.eraseInert.setRegBit .sr i b := rfl

/-- A write to any register agrees with the same write to the blanked instance, once that register is blanked too. -/
theorem Spi.eraseInert_setReg (p : Spi) (r : SpiReg) (w : Word) :
    (p.setReg r w).eraseInert = (p.eraseInert.setReg r w).eraseInert := by cases r <;> rfl

/-- The CR write (R212) does not see the inert registers. -/
theorem Spi.eraseInert_writeCr (c : Config) (w : Word) (p : Spi) :
    (p.writeCr c w).eraseInert = (p.eraseInert.writeCr c w).eraseInert := by
  unfold Spi.writeCr
  split
  · rfl
  · dsimp only
    split <;> split <;> rfl

/-- A transfer cycle (R231) commutes with blanking: the peer answers from the words sent (R4). -/
theorem Spi.eraseInert_transferCycle (c : Config) (n : Nat) (p : Spi) :
    (p.transferCycle c n).eraseInert = p.eraseInert.transferCycle c n := by
  rcases fifoPush_cases c.spi.rxCap p.rx
    (peerWord c n (p.sent ++ [(fifoPop p.tx).2.1]) (fifoPop p.tx).2.1) with ⟨-, hpush⟩ | ⟨-, hpush⟩ <;>
    simp [Spi.transferCycle, exchange_eq, hpush, apply_ite Spi.eraseInert] <;> rfl

/-- The TDR write (R225) commutes with blanking. -/
theorem Spi.eraseInert_writeTdr (c : Config) (n : Nat) (w : Word) (p : Spi) :
    (p.writeTdr c n w).eraseInert = p.eraseInert.writeTdr c n w := by
  unfold Spi.writeTdr
  simp only [apply_ite Spi.eraseInert, Spi.eraseInert_transferCycle]
  rfl

/-- The RDR read (R197) of the blanked instance is the blanked RDR read, with the same answer. -/
theorem Spi.readRdr_eraseInert (p : Spi) : p.eraseInert.readRdr = (p.readRdr.1.eraseInert, p.readRdr.2) := by
  unfold Spi.readRdr
  rw [Spi.eraseInert_rx]
  cases p.rx <;> rfl

/-- No SPI rule sees the inert registers or `master`: the next instance is the same but for them. -/
theorem SpiRule.eraseInert_next {c : Config} {i : Instr} {rule : Spi → Spi × Reply} (h : SpiRule c i rule)
    (p : Spi) : (rule p).1.eraseInert = (rule p.eraseInert).1.eraseInert := by
  cases h with
  | answer | powerOn | writeSr | writeCfgr1 => rfl
  | store r w => exact p.eraseInert_setReg r w
  | readRdr => exact congrArg (fun x => x.1.eraseInert) p.readRdr_eraseInert.symm
  | writeCr => exact p.eraseInert_writeCr c _
  | writeTdr n z val => exact Spi.eraseInert_eq_of_blanked (p.eraseInert_writeTdr c n _)

/-- The reply of an SPI operation depends on the inert registers only where it reads one. -/
theorem SpiRule.eraseInert_reply {c : Config} {i : Instr} {rule : Spi → Spi × Reply} (h : SpiRule c i rule)
    (hread : readsInert c i = false) (p : Spi) : (rule p).2 = (rule p.eraseInert).2 := by
  cases h with
  | answer reply blind => exact blind hread p
  | readRdr n z => exact congrArg (fun x => Reply.ofValue (truncSize z x.2)) p.readRdr_eraseInert.symm
  | _ => rfl

/-! ## Blanking the state -/

/-- Two states agree but for inert registers and the last reply exactly when their parts do. -/
theorem State.eraseInert_eq_iff {s t : State} :
    s.eraseInert = t.eraseInert ↔
      s.cfg = t.cfg ∧ s.uarts.map Uart.eraseInert = t.uarts.map Uart.eraseInert ∧
        s.spis.map Spi.eraseInert = t.spis.map Spi.eraseInert ∧ s.ops = t.ops := by
  simp [State.eraseInert]

/-- Elements at one index of two lists that a function maps to the same list have the same image. -/
theorem apply_eq_of_map_eq {α β : Type} {f : α → β} {l m : List α} {n : Nat} {x y : α} (h : l.map f = m.map f)
    (hx : l[n]? = some x) (hy : m[n]? = some y) : f x = f y := by
  have hn : (l.map f)[n]? = (m.map f)[n]? := by rw [h]
  simpa [hx, hy] using hn

/-- A rule that does not see the inert registers of a UART takes states that agree but for them to such states. -/
theorem onUart_eraseInert {n : Nat} {rule : Uart → Uart × Reply}
    (hnext : ∀ u, (rule u).1.eraseInert = (rule u.eraseInert).1.eraseInert) {s₁ s₂ t₁ t₂ : State}
    (he : s₁.eraseInert = s₂.eraseInert) (h₁ : onUart n rule s₁ = .next t₁) (h₂ : onUart n rule s₂ = .next t₂) :
    t₁.eraseInert = t₂.eraseInert ∧ ((∀ u, (rule u).2 = (rule u.eraseInert).2) → t₁.reply = t₂.reply) := by
  obtain ⟨hcfg, huarts, hspis, hops⟩ := State.eraseInert_eq_iff.mp he
  obtain ⟨u₁, hu₁, rfl⟩ := onUart_inv h₁
  obtain ⟨u₂, hu₂, rfl⟩ := onUart_inv h₂
  have hu : u₁.eraseInert = u₂.eraseInert := apply_eq_of_map_eq huarts hu₁ hu₂
  have hv : (rule u₁).1.eraseInert = (rule u₂).1.eraseInert := by rw [hnext u₁, hnext u₂, hu]
  refine ⟨State.eraseInert_eq_iff.mpr ⟨hcfg, ?_, hspis, hops⟩, fun hreply => ?_⟩
  · rw [List.map_set, List.map_set, huarts, hv]
  · exact (hreply u₁).trans ((congrArg (fun u => (rule u).2) hu).trans (hreply u₂).symm)

/-- A rule that does not see the inert registers of an SPI takes states that agree but for them to such states. -/
theorem onSpi_eraseInert {n : Nat} {rule : Spi → Spi × Reply}
    (hnext : ∀ p, (rule p).1.eraseInert = (rule p.eraseInert).1.eraseInert) {s₁ s₂ t₁ t₂ : State}
    (he : s₁.eraseInert = s₂.eraseInert) (h₁ : onSpi n rule s₁ = .next t₁) (h₂ : onSpi n rule s₂ = .next t₂) :
    t₁.eraseInert = t₂.eraseInert ∧ ((∀ p, (rule p).2 = (rule p.eraseInert).2) → t₁.reply = t₂.reply) := by
  obtain ⟨hcfg, huarts, hspis, hops⟩ := State.eraseInert_eq_iff.mp he
  obtain ⟨p₁, hp₁, rfl⟩ := onSpi_inv h₁
  obtain ⟨p₂, hp₂, rfl⟩ := onSpi_inv h₂
  have hp : p₁.eraseInert = p₂.eraseInert := apply_eq_of_map_eq hspis hp₁ hp₂
  have hq : (rule p₁).1.eraseInert = (rule p₂).1.eraseInert := by rw [hnext p₁, hnext p₂, hp]
  refine ⟨State.eraseInert_eq_iff.mpr ⟨hcfg, huarts, ?_, hops⟩, fun hreply => ?_⟩
  · rw [List.map_set, List.map_set, hspis, hq]
  · exact (hreply p₁).trans ((congrArg (fun p => (rule p).2) hp).trans (hreply p₂).symm)

end Sys2Proof.Machine

namespace Sys2Proof.Proofs

open Sys2Proof.Machine

/-- Settles O50: the operation performs the same rule on both states, and no rule sees the inert registers. -/
theorem inertRegistersNeverMatter : Obligations.InertRegistersNeverMatter := by
  intro i s₁ s₂ t₁ t₂ he h₁ h₂
  have hcfg : s₂ = { s₂ with cfg := s₁.cfg } := by rw [(State.eraseInert_eq_iff.mp he).1]
  rw [hcfg] at h₂ he
  rcases exec_performs_rule i s₁.cfg with ⟨-, rule, hexec, hrule⟩ | ⟨-, rule, hexec, hrule⟩
  · obtain ⟨hstate, hreply⟩ :=
      onUart_eraseInert hrule.eraseInert_next he ((hexec s₁).symm.trans h₁) ((hexec s₂).symm.trans h₂)
    exact ⟨hstate, fun hread => hreply (hrule.eraseInert_reply hread)⟩
  · obtain ⟨hstate, hreply⟩ :=
      onSpi_eraseInert hrule.eraseInert_next he ((hexec s₁).symm.trans h₁) ((hexec s₂).symm.trans h₂)
    exact ⟨hstate, fun hread => hreply (hrule.eraseInert_reply hread)⟩

end Sys2Proof.Proofs
end

section
/-!
PROOFS. What a step does (20_memory.md rules R2, R49), narrow and invalid accesses (rules R43, R45, R240), reads
without side effect (R47), and why operations on different instances commute (R51).
-/

namespace Sys2Proof.Machine

/-! ## One step -/

/-- A step performs the operation that the first pending request decodes to (R49, R62). -/
theorem step_of_decode_ok {s : State} {r : Request} {rest : List Request} {i : Instr} (hops : s.ops = r :: rest)
    (hdec : decode s.cfg r = .ok i) : step s = exec i { s with ops := rest } := by
  unfold step State.nextRequest
  simp only [hops, hdec]

/-- A step refuses a request that is no operation, and names why (R62). -/
theorem step_of_decode_error {s : State} {r : Request} {rest : List Request} {why : Reject}
    (hops : s.ops = r :: rest) (hdec : decode s.cfg r = .error why) : step s = .refused (.notAnOperation why) := by
  unfold step State.nextRequest
  simp only [hops, hdec]

/-- With nothing pending a step changes nothing (R2). -/
theorem step_idle {s : State} (hops : s.ops = []) : step s = .next s := by
  unfold step State.nextRequest
  simp only [hops]

/-! ## The kind of an invalid access (R240) -/

theorem invalidKind_none (off : Off) : invalidKind none off = .badSize := rfl

theorem invalidKind_some (z : Size) (off : Off) :
    invalidKind (some z) off = if off.toNat % z.bytes ≠ 0 then .misaligned else .outOfRange :=
  (ite_not ..).symm

/-! ## Reads without side effect (R47) -/

/-- A UART rule that only answers changes the reply only, and answers the same again. -/
theorem onUart_answer_again {n : Nat} {reply : Uart → Reply} {s t : State}
    (h : onUart n (fun u => (u, reply u)) s = .next t) :
    t = { s with reply := t.reply } ∧ onUart n (fun u => (u, reply u)) t = .next t := by
  obtain ⟨u, hu, -⟩ := onUart_inv h
  obtain rfl := Host.Outcome.next.inj (h.symm.trans (onUart_pure hu rfl))
  exact ⟨rfl, onUart_pure hu rfl⟩

/-- An SPI rule that only answers changes the reply only, and answers the same again. -/
theorem onSpi_answer_again {n : Nat} {reply : Spi → Reply} {s t : State}
    (h : onSpi n (fun p => (p, reply p)) s = .next t) :
    t = { s with reply := t.reply } ∧ onSpi n (fun p => (p, reply p)) t = .next t := by
  obtain ⟨p, hp, -⟩ := onSpi_inv h
  obtain rfl := Host.Outcome.next.inj (h.symm.trans (onSpi_pure hp rfl))
  exact ⟨rfl, onSpi_pure hp rfl⟩

/-- Every read but UART DATA and SPI RDR only answers, and what it answers depends on its instance and the
configuration (R47). -/
theorem exec_read_answers {i : Instr} {c : Config} (hrd : (i.descriptor c).cls = .rd)
    (hdata : ∀ n z, i ≠ .uartRdData n z) (hrdr : ∀ n z, i ≠ .spiRdRdr n z) :
    (∃ reply : Uart → Reply, ∀ s : State, s.cfg = c →
      exec i s = onUart (i.descriptor c).inst (fun u => (u, reply u)) s) ∨
    (∃ reply : Spi → Reply, ∀ s : State, s.cfg = c →
      exec i s = onSpi (i.descriptor c).inst (fun p => (p, reply p)) s) := by
  cases i with
  | uartRdData n z => exact absurd rfl (hdata n z)
  | spiRdRdr n z => exact absurd rfl (hrdr n z)
  | uartRdVerid _ z => exact .inl ⟨fun _ => .ofValue (truncSize z c.uart.verid), fun _ hs => hs ▸ rfl⟩
  | uartRdParam _ z => exact .inl ⟨fun _ => .ofValue (truncSize z c.uart.param), fun _ hs => hs ▸ rfl⟩
  | spiRdVerid _ z => exact .inr ⟨fun _ => .ofValue (truncSize z c.spi.verid), fun _ hs => hs ▸ rfl⟩
  | spiRdParam _ z => exact .inr ⟨fun _ => .ofValue (truncSize z c.spi.param), fun _ hs => hs ▸ rfl⟩
  | uartRdGlobal | uartRdPincfg | uartRdBaud | uartRdStat | uartRdCtrl | uartRdMatch | uartRdModir | uartRdFifo
  | uartRdWater | uartRdDataro | uartRdMcr | uartRdMsr | uartRdReir | uartRdTeir | uartRdHdcr | uartRdTocr
  | uartRdTosr | uartRdUnknown | uartRdInvalid => exact .inl ⟨_, fun _ _ => rfl⟩
  | spiRdCr | spiRdSr | spiRdIer | spiRdDer | spiRdCfgr0 | spiRdCfgr1 | spiRdDmr0 | spiRdDmr1 | spiRdCcr | spiRdCcr1
  | spiRdFcr | spiRdFsr | spiRdTcr | spiRdTdr | spiRdRsr | spiRdRdror | spiRdUnknown | spiRdInvalid =>
    exact .inr ⟨_, fun _ _ => rfl⟩
  | _ => nomatch hrd

/-! ## Operations on different instances (R51) -/

/-- If `f` and then `g` go through from `s`, so do `g` and then `f`; each hands back the reply it did before, and the
last states differ in the last reply only. -/
def CommuteAt (f g : State → Result) (s : State) : Prop :=
  ∀ a b, f s = .next a → g a = .next b →
    ∃ a', g s = .next a' ∧ f a' = .next { b with reply := a.reply } ∧ a'.reply = b.reply

/-- Operations on two UARTs commute. -/
theorem onUart_onUart_commute {m n : Nat} (hne : m ≠ n) (f g : Uart → Uart × Reply) (s : State) :
    CommuteAt (onUart m f) (onUart n g) s := by
  intro a b ha hb
  obtain ⟨u, hu, rfl⟩ := onUart_inv ha
  obtain ⟨v, hv, rfl⟩ := onUart_inv hb
  have hv' : s.uarts[n]? = some v := (List.getElem?_set_ne hne).symm.trans hv
  have hu' : (s.uarts.set n (g v).1)[m]? = some u := (List.getElem?_set_ne hne.symm).trans hu
  refine ⟨_, onUart_next g hv', (onUart_next f hu').trans ?_, rfl⟩
  simp only [List.set_comm _ _ hne.symm]

/-- Operations on two SPIs commute. -/
theorem onSpi_onSpi_commute {m n : Nat} (hne : m ≠ n) (f g : Spi → Spi × Reply) (s : State) :
    CommuteAt (onSpi m f) (onSpi n g) s := by
  intro a b ha hb
  obtain ⟨p, hp, rfl⟩ := onSpi_inv ha
  obtain ⟨q, hq, rfl⟩ := onSpi_inv hb
  have hq' : s.spis[n]? = some q := (List.getElem?_set_ne hne).symm.trans hq
  have hp' : (s.spis.set n (g q).1)[m]? = some p := (List.getElem?_set_ne hne.symm).trans hp
  refine ⟨_, onSpi_next g hq', (onSpi_next f hp').trans ?_, rfl⟩
  simp only [List.set_comm _ _ hne.symm]

/-- An operation on a UART and a later one on an SPI commute. -/
theorem onUart_onSpi_commute (m n : Nat) (f : Uart → Uart × Reply) (g : Spi → Spi × Reply) (s : State) :
    CommuteAt (onUart m f) (onSpi n g) s := by
  intro a b ha hb
  obtain ⟨u, hu, rfl⟩ := onUart_inv ha
  obtain ⟨p, hp, rfl⟩ := onSpi_inv hb
  exact ⟨_, onSpi_next g hp, onUart_next f hu, rfl⟩

/-- An operation on an SPI and a later one on a UART commute. -/
theorem onSpi_onUart_commute (m n : Nat) (f : Spi → Spi × Reply) (g : Uart → Uart × Reply) (s : State) :
    CommuteAt (onSpi m f) (onUart n g) s := by
  intro a b ha hb
  obtain ⟨p, hp, rfl⟩ := onSpi_inv ha
  obtain ⟨u, hu, rfl⟩ := onUart_inv hb
  exact ⟨_, onUart_next g hu, onSpi_next f hp, rfl⟩

/-- Two operations commute at a state when what they do under its configuration does. -/
theorem exec_commuteAt_of_eq {i j : Instr} {s : State} {f g : State → Result}
    (hf : ∀ t : State, t.cfg = s.cfg → exec i t = f t) (hg : ∀ t : State, t.cfg = s.cfg → exec j t = g t)
    (h : CommuteAt f g s) : CommuteAt (exec i) (exec j) s := by
  intro a b ha hb
  obtain ⟨a', hga', hfa', hreply⟩ := h a b ((hf s rfl).symm.trans ha) ((hg a (exec_cfg ha)).symm.trans hb)
  have ha' : exec j s = .next a' := (hg s rfl).trans hga'
  exact ⟨a', ha', (hf a' (exec_cfg ha')).trans hfa', hreply⟩

/-- Operations that name different instances commute (R51). -/
theorem exec_commute {i j : Instr} {s : State}
    (hne : (i.descriptor s.cfg).kind ≠ (j.descriptor s.cfg).kind ∨
      (i.descriptor s.cfg).inst ≠ (j.descriptor s.cfg).inst) : CommuteAt (exec i) (exec j) s := by
  rcases exec_acts_on_one_instance i s.cfg with ⟨hki, f, hf⟩ | ⟨hki, f, hf⟩ <;>
    rcases exec_acts_on_one_instance j s.cfg with ⟨hkj, g, hg⟩ | ⟨hkj, g, hg⟩ <;>
    refine exec_commuteAt_of_eq hf hg ?_
  · exact onUart_onUart_commute (hne.resolve_left (not_not_intro (hki.trans hkj.symm))) f g s
  · exact onUart_onSpi_commute _ _ f g s
  · exact onSpi_onUart_commute _ _ f g s
  · exact onSpi_onSpi_commute (hne.resolve_left (not_not_intro (hki.trans hkj.symm))) f g s

end Sys2Proof.Machine

namespace Sys2Proof.Proofs

open Sys2Proof.Machine

/-- Settles O1: the three things that can stand first in the list of pending operations. -/
theorem stepRunsTheDecodedOperation : Obligations.StepRunsTheDecodedOperation :=
  ⟨fun _ _ _ _ => step_of_decode_ok, fun _ _ _ _ => step_of_decode_error, fun _ => step_idle⟩

/-- Settles O19: both are a mask of the size's low bits. -/
theorem narrowAccessesUseTheLowBits : Obligations.NarrowAccessesUseTheLowBits :=
  fun z w j => ⟨getLsbD_truncSize z w j, getLsbD_zextSize z w j⟩

/-- Settles O15: each of the four raises the guest error of the kind that `invalidKind` finds first. -/
theorem invalidAccessesAreGuestErrors : Obligations.InvalidAccessesAreGuestErrors := by
  intro s n size off val kind
  have hkind : invalidKind size off = kind := by
    cases size with
    | none => exact invalidKind_none off
    | some z => exact invalidKind_some z off
  rw [← hkind]
  exact ⟨fun u hu => ⟨uartGuestError_next _ true hu, uartGuestError_next _ false hu⟩,
    fun p hp => ⟨spiGuestError_next _ true hp, spiGuestError_next _ false hp⟩⟩

/-- Settles O13: such a read only answers, so it finds the instance as it was. -/
theorem onlyDataAndRdrReadsHaveSideEffects : Obligations.OnlyDataAndRdrReadsHaveSideEffects := by
  intro i s t hrd hdata hrdr h
  have htcfg := exec_cfg h
  rcases exec_read_answers hrd hdata hrdr with ⟨reply, hexec⟩ | ⟨reply, hexec⟩ <;>
    rw [hexec t htcfg] <;> rw [hexec s rfl] at h
  · exact onUart_answer_again h
  · exact onSpi_answer_again h

/-- Settles O12: each operation acts on its own instance by a rule that sees that instance only. -/
theorem operationsOnDifferentInstancesCommute : Obligations.OperationsOnDifferentInstancesCommute := by
  intro i j s a b hne ha hb
  obtain ⟨a', ha', hb', hreply⟩ := exec_commute hne a b ha hb
  exact ⟨a', _, ha', hb', rfl, rfl, rfl, rfl, hreply, rfl⟩

end Sys2Proof.Proofs
end

section
/-!
PROOFS. The bus dispatcher (20_memory.md rules R40 to R42, R50, R55): an address in a region reaches the device of
that region, because the regions of an admissible configuration are disjoint (R4), and the access issued there is the
next operation performed.
-/

namespace Sys2Proof

/-! ## Disjoint regions (R4) -/

theorem pairwiseDisjoint_iff {l : List (Nat × Nat)} :
    pairwiseDisjoint l = true ↔ l.Pairwise fun a b => disjointRegions a b = true := by
  induction l with
  | nil => exact iff_of_true rfl .nil
  | cons a rest ih => rw [pairwiseDisjoint, Bool.and_eq_true, List.all_eq_true, ih, List.pairwise_cons]

/-- An address in one of two disjoint regions is not in the other. -/
theorem not_mem_region_of_disjoint {a b : Nat × Nat} {addr : Nat} (h : disjointRegions a b = true)
    (hb : b.1 ≤ addr ∧ addr < b.1 + b.2) : ¬(a.1 ≤ addr ∧ addr < a.1 + a.2) := by
  simp only [disjointRegions, Bool.or_eq_true, decide_eq_true_eq] at h
  omega

/-- The regions of an admissible configuration are disjoint: those of the UARTs, those of the SPIs, and those of one
kind from those of the other (R4). -/
theorem Config.regions_disjoint {c : Config} (hc : c.wf = true) :
    (c.uart.wiring.map (·.base)).Pairwise
      (fun a b => disjointRegions (a, c.uart.regionSize) (b, c.uart.regionSize) = true) ∧
    (c.spi.wiring.map (·.base)).Pairwise
      (fun a b => disjointRegions (a, c.spi.regionSize) (b, c.spi.regionSize) = true) ∧
    ∀ a ∈ c.uart.wiring.map (·.base), ∀ b ∈ c.spi.wiring.map (·.base),
      disjointRegions (a, c.uart.regionSize) (b, c.spi.regionSize) = true := by
  obtain ⟨-, -, hd⟩ := Config.wf_iff.mp hc
  rw [pairwiseDisjoint_iff, Config.regions, List.pairwise_append] at hd
  simpa only [List.pairwise_map, List.forall_mem_map] using hd

/-- A UART's region holds all its registers, DATA among them (R4, R11). -/
theorem Config.uart_regionSize_ge {c : Config} (hc : c.wf = true) : 0x60 ≤ c.uart.regionSize := by
  obtain ⟨hu, -, -⟩ := Config.wf_iff.mp hc
  simp only [UartConfig.wf, Bool.and_eq_true, decide_eq_true_eq] at hu
  omega

/-- An SPI's region holds all its fixed registers, RDR among them (R4, R21). -/
theorem Config.spi_regionSize_ge {c : Config} (hc : c.wf = true) : 0x7C ≤ c.spi.regionSize := by
  obtain ⟨-, hp, -⟩ := Config.wf_iff.mp hc
  simp only [SpiConfig.wf, Bool.and_eq_true, decide_eq_true_eq] at hp
  omega

/-! ## Decoding a read of DATA and of RDR (R62) -/

@[simp] theorem sizeOfBytes_bytes (z : Size) : sizeOfBytes z.bytes = some z := by cases z <;> rfl

/-- A read of any size at offset 0x1C of a UART is UART.RD.DATA (R63). -/
theorem decodeRead_uart_data {c : Config} (hc : c.wf = true) (n : Nat) (z : Size) :
    decodeRead c .uart n (some z) 0x1C#24 = .uartRdData n z := by
  have hsize := Config.uart_regionSize_ge hc
  have hvalid : validAccess c.uart.regionSize (some z) 0x1C#24 = true := by
    rw [validAccess_some]
    cases z <;> simp [Size.bytes] <;> omega
  exact if_pos hvalid

/-- A read of any size at offset 0x74 of an SPI is SPI.RD.RDR (R64). -/
theorem decodeRead_spi_rdr {c : Config} (hc : c.wf = true) (n : Nat) (z : Size) :
    decodeRead c .spi n (some z) 0x74#24 = .spiRdRdr n z := by
  have hsize := Config.spi_regionSize_ge hc
  have hvalid : validAccess c.spi.regionSize (some z) 0x74#24 = true := by
    rw [validAccess_some]
    cases z <;> simp [Size.bytes] <;> omega
  exact if_pos hvalid

namespace Machine

/-! ## Routing an address (R40, R41) -/

/-- Among disjoint regions, an address in the one of index `n` finds that one. -/
theorem findRegion_of_disjoint {size n b off : Nat} {bases : List Nat}
    (hd : bases.Pairwise fun a b => disjointRegions (a, size) (b, size) = true) (hb : bases[n]? = some b)
    (hoff : off < size) : findRegion size (b + off) bases = some (n, off) := by
  have hold : b ≤ b + off ∧ b + off < b + size := by omega
  rw [findRegion_eq_some hb hold, Nat.add_sub_cancel_left]
  intro m b' hm hb'
  obtain ⟨hn, rfl⟩ := List.getElem?_eq_some_iff.mp hb
  obtain ⟨hm', rfl⟩ := List.getElem?_eq_some_iff.mp hb'
  exact not_mem_region_of_disjoint (List.pairwise_iff_getElem.mp hd m n hm' hn hm) hold

/-- An address in the region of a UART belongs to that UART. -/
theorem route_uart {c : Config} (hc : c.wf = true) {n off : Nat} {w : UartWiring} (hw : c.uart.wiring[n]? = some w)
    (hoff : off < c.uart.regionSize) : route c (w.base + off) = some (.uart, n, off) := by
  obtain ⟨huart, -, -⟩ := Config.regions_disjoint hc
  have hb : (c.uart.wiring.map (·.base))[n]? = some w.base := by rw [List.getElem?_map, hw, Option.map_some]
  unfold route
  rw [findRegion_of_disjoint huart hb hoff]

/-- An address in the region of an SPI belongs to that SPI: no UART holds it. -/
theorem route_spi {c : Config} (hc : c.wf = true) {n off : Nat} {w : SpiWiring} (hw : c.spi.wiring[n]? = some w)
    (hoff : off < c.spi.regionSize) : route c (w.base + off) = some (.spi, n, off) := by
  obtain ⟨-, hspi, hcross⟩ := Config.regions_disjoint hc
  have hb : (c.spi.wiring.map (·.base))[n]? = some w.base := by rw [List.getElem?_map, hw, Option.map_some]
  have hold : w.base ≤ w.base + off ∧ w.base + off < w.base + c.spi.regionSize := by omega
  have hnone : findRegion c.uart.regionSize (w.base + off) (c.uart.wiring.map (·.base)) = none :=
    findRegion_eq_none.mpr fun a ha =>
      not_mem_region_of_disjoint (hcross a ha w.base (List.mem_of_getElem? hb)) hold
  unfold route
  rw [hnone, findRegion_of_disjoint hspi hb hoff]
  rfl

/-- An address outside every region belongs to no instance. -/
theorem route_eq_none {c : Config} {addr : Nat} (h : ∀ g ∈ c.regions, ¬(g.1 ≤ addr ∧ addr < g.1 + g.2)) :
    route c addr = none := by
  rw [Config.regions, List.forall_mem_append, List.forall_mem_map, List.forall_mem_map] at h
  obtain ⟨huart, hspi⟩ := h
  unfold route
  rw [findRegion_eq_none.mpr (List.forall_mem_map.mpr huart), findRegion_eq_none.mpr (List.forall_mem_map.mpr hspi)]
  rfl

/-! ## The request of an access (R41, R55) -/

/-- The request that a load, or a fetch presented as a read, makes of the instance the address belongs to. -/
theorem busRequest_read {c : Config} {addr inst off : Nat} {k : Kind} (h : route c addr = some (k, inst, off))
    (len : Nat) : ∀ a ∈ [BusAccess.load addr len, .fetch .asRead addr len], busRequest c a
      = .ok { inst := inst, sel := packSel .rd (sizeOfBytes len) k (BitVec.ofNat 24 off), val := 0#32 } := by
  have hread : readRequest c addr len
      = .ok { inst := inst, sel := packSel .rd (sizeOfBytes len) k (BitVec.ofNat 24 off), val := 0#32 } := by
    unfold readRequest
    rw [h]
  simp only [List.forall_mem_cons, List.not_mem_nil, false_implies, implies_true, and_true]
  exact ⟨hread, hread⟩

/-- The request that a store makes of the instance the address belongs to. -/
theorem busRequest_store {c : Config} {addr inst off : Nat} {k : Kind} (h : route c addr = some (k, inst, off))
    (len val : Nat) : busRequest c (.store addr len val)
      = .ok { inst := inst, sel := packSel .wr (sizeOfBytes len) k (BitVec.ofNat 24 off)
              val := BitVec.ofNat 32 (val % 2 ^ (8 * len)) } := by
  unfold busRequest
  simp only [h]

/-- Loads, stores and fetches presented as reads at an address of no instance are refused by name. -/
theorem busRequest_no_device {c : Config} {addr : Nat} (h : route c addr = none) (len val : Nat) :
    ∀ a ∈ [BusAccess.load addr len, .store addr len val, .fetch .asRead addr len],
      busRequest c a = .error (.noDeviceAt addr) := by
  have hread : readRequest c addr len = .error (.noDeviceAt addr) := by
    unfold readRequest
    rw [h]
  have hstore : busRequest c (.store addr len val) = .error (.noDeviceAt addr) := by
    unfold busRequest
    simp only [h]
  simp only [List.forall_mem_cons, List.not_mem_nil, false_implies, implies_true, and_true]
  exact ⟨hread, hstore, hread⟩

/-! ## Performing an access (R50) -/

/-- With nothing pending, an access issued is the operation the next step performs. -/
theorem busIssue_then_step {a : BusAccess} {s : State} {r : Request} {i : Instr} (hops : s.ops = [])
    (hreq : busRequest s.cfg a = .ok r) (hdec : decode s.cfg r = .ok i) :
    ∃ t, busIssue a s = .next t ∧ step t = exec i s := by
  have hdone : { s with ops := [] } = s := by rw [← hops]
  refine ⟨{ s with ops := [r] }, ?_, ?_⟩
  · unfold busIssue
    simp only [hreq, hops, List.nil_append]
  · rw [step_of_decode_ok (s := { s with ops := [r] }) rfl hdec, hdone]

/-- With nothing pending, a load or a fetch presented as a read runs the read of the instance, size and offset. -/
theorem bus_read_runs {s : State} {addr n off : Nat} {k : Kind} (hops : s.ops = []) (hn : n < s.cfg.count k)
    (hroute : route s.cfg addr = some (k, n, off)) (len : Nat) :
    ∀ a ∈ [BusAccess.load addr len, .fetch .asRead addr len], ∃ t, busIssue a s = .next t ∧
      step t = exec (decodeRead s.cfg k n (sizeOfBytes len) (BitVec.ofNat 24 off)) s :=
  fun a ha => busIssue_then_step hops (busRequest_read hroute len a ha) (decode_rd hn)

/-- With nothing pending, a store runs the write of the value's low `8*len` bits. -/
theorem bus_store_runs {s : State} {addr n off : Nat} {k : Kind} (hops : s.ops = []) (hn : n < s.cfg.count k)
    (hroute : route s.cfg addr = some (k, n, off)) (len val : Nat) :
    ∃ t, busIssue (.store addr len val) s = .next t ∧
      step t = exec (decodeWrite s.cfg k n (sizeOfBytes len) (BitVec.ofNat 24 off)
        (BitVec.ofNat 32 (val % 2 ^ (8 * len)))) s :=
  busIssue_then_step hops (busRequest_store hroute len val) (decode_wr hn)

end Machine

end Sys2Proof

namespace Sys2Proof.Proofs

open Sys2Proof.Machine

/-- Settles O55: the request is made of the instance the address belongs to, and of none outside every region. -/
theorem busAccessesReachTheirRegister : Obligations.BusAccessesReachTheirRegister := by
  intro c addr len val
  refine ⟨?_, ?_, fun houtside => busRequest_no_device (route_eq_none houtside) len val, rfl⟩
  · rintro hc n w off hw hoff rfl
    exact ⟨busRequest_read (route_uart hc hw hoff) len, busRequest_store (route_uart hc hw hoff) len val⟩
  · rintro hc n w off hw hoff rfl
    exact ⟨busRequest_read (route_spi hc hw hoff) len, busRequest_store (route_spi hc hw hoff) len val⟩

/-- Settles O57: the access reaches its instance, whose request decodes; at 0x1C and 0x74 to the DATA and RDR reads. -/
theorem busAccessesRunTheirOperation : Obligations.BusAccessesRunTheirOperation := by
  intro s n addr off len val hc hops
  refine ⟨?_, ?_⟩
  · rintro w hw rfl hoff
    obtain ⟨hn, -⟩ := List.getElem?_eq_some_iff.mp hw
    have hroute := route_uart hc hw hoff
    refine ⟨fun a ha => ?_, bus_store_runs hops hn hroute len val⟩
    have hread := bus_read_runs hops hn hroute len a ha
    refine ⟨hread, ?_⟩
    rintro z rfl rfl
    rwa [sizeOfBytes_bytes, decodeRead_uart_data hc] at hread
  · rintro w hw rfl hoff
    obtain ⟨hn, -⟩ := List.getElem?_eq_some_iff.mp hw
    have hroute := route_spi hc hw hoff
    refine ⟨fun a ha => ?_, bus_store_runs hops hn hroute len val⟩
    have hread := bus_read_runs hops hn hroute len a ha
    refine ⟨hread, ?_⟩
    rintro z rfl rfl
    rwa [sizeOfBytes_bytes, decodeRead_spi_rdr hc] at hread

end Sys2Proof.Proofs
end

section
/-!
PROOFS. Decoding and encoding (30_encoding.md rules R60 to R66). A bus access, read or write, of a UART or an SPI, is
decoded by one choice among the operations of its class and kind (`BusRows.pick`), and `accessForm` names the step of R62
that makes it. From this: decoding an encoded operation gives it back, what decodes accounts for every bit of `sel`, and
which requests decode at all.
-/

namespace Sys2Proof

/-! ## The fields of `sel` (R61) -/

theorem clsOfCode_eq_some {x : BitVec 2} {cls : Cls} : clsOfCode x = some cls ↔ x = clsCode cls := by
  revert x
  cases cls <;> decide

theorem kindOfCode_eq_some {x : BitVec 4} {k : Kind} : kindOfCode x = some k ↔ x = kindCode k := by
  revert x
  cases k <;> decide

/-- A word is packed from its four fields. -/
theorem eq_packSel {sel : Word} {cls : Cls} {k : Kind} (hcls : sel.extractLsb' 30 2 = clsCode cls)
    (hkind : sel.extractLsb' 24 4 = kindCode k) :
    sel = packSel cls (sizeOfCode (sel.extractLsb' 28 2)) k (sel.extractLsb' 0 24) := by
  unfold packSel
  rw [← hcls, ← hkind, sizeCode_sizeOfCode]
  apply BitVec.eq_of_getLsbD_eq
  intro i hi
  interval_cases i <;> simp

/-- An offset of 8 bits, by the two fields that R62 step 1 looks at. -/
theorem off_eq_setWidth_iff (off : Off) (b : Byte) :
    off = b.setWidth 24 ↔ off.extractLsb' 8 16 = 0#16 ∧ off.extractLsb' 0 8 = b := by
  simp only [BitVec.toNat_eq, BitVec.extractLsb'_toNat, BitVec.toNat_setWidth, Nat.shiftRight_eq_div_pow,
    BitVec.toNat_ofNat]
  omega

/-! ## One choice for every bus access (R62 steps 3 to 5) -/

/-- The operations that a bus access of one kind, class and instance may turn out to be: the invalid access, the unknown
offset, and the register rows. -/
structure BusRows where
  invalid : Option Size → Off → Instr
  unknown : Size → Off → Instr
  row : Size → Nat → Option Instr

/-- Steps 3 to 5 of R62: the operation that an access of this size and offset is. -/
def BusRows.pick (b : BusRows) (regionSize : Nat) (size : Option Size) (off : Off) : Instr :=
  match size with
  | none => b.invalid none off
  | some z =>
    if validAccess regionSize (some z) off then (b.row z off.toNat).getD (b.unknown z off) else b.invalid (some z) off

/-- The operation that these rows hold for the step of R62 that `form` names. -/
def BusRows.entry (b : BusRows) (form : Form) (size : Option Size) (off : Off) : Option Instr :=
  match form, size with
  | .invalid, size => some (b.invalid size off)
  | .register, some z => b.row z off.toNat
  | .unknown, some z => some (b.unknown z off)
  | _, _ => none

/-- The reads of an instance. -/
def readRows (c : Config) (k : Kind) (n : Nat) : BusRows :=
  match k with
  | .uart => { invalid := .uartRdInvalid n, unknown := .uartRdUnknown n, row := uartRdRow n }
  | .spi => { invalid := .spiRdInvalid n, unknown := .spiRdUnknown n, row := spiRdRow c n }

/-- The writes of the value `val` to an instance. -/
def writeRows (c : Config) (k : Kind) (n : Nat) (val : Word) : BusRows :=
  match k with
  | .uart =>
    { invalid := (.uartWrInvalid n · · val), unknown := (.uartWrUnknown n · · val), row := (uartWrRow n · val) }
  | .spi =>
    { invalid := (.spiWrInvalid n · · val), unknown := (.spiWrUnknown n · · val), row := (spiWrRow c n · val) }

/-- The bits of `val` that an access of this size has (log 8). -/
def cutValue (size : Option Size) (val : Word) : Word :=
  match size with
  | none => val
  | some z => zextSize z val

theorem decodeRead_eq_pick (c : Config) (k : Kind) (n : Nat) (size : Option Size) (off : Off) :
    decodeRead c k n size off = (readRows c k n).pick (c.regionSize k) size off := by
  cases k <;> cases size <;> rfl

theorem decodeWrite_eq_pick (c : Config) (k : Kind) (n : Nat) (size : Option Size) (off : Off) (val : Word) :
    decodeWrite c k n size off val = (writeRows c k n (cutValue size val)).pick (c.regionSize k) size off := by
  cases k <;> cases size <;> rfl

theorem valueFits_iff {size : Option Size} {val : Word} : valueFits size val = true ↔ cutValue size val = val := by
  cases size <;> simp [valueFits, cutValue]

theorem valueFits_cutValue (size : Option Size) (val : Word) : valueFits size (cutValue size val) = true := by
  cases size <;> simp [valueFits, cutValue]

/-- A read carries the value 0, which fits every size. -/
theorem valueFits_zero (size : Option Size) : valueFits size 0#32 = true := by
  cases size <;> simp [valueFits, zextSize]

/-! ## The register tables (R63, R64) -/

/-- The offsets of the registers of a kind (R11, R21). -/
def registerOffsets (c : Config) (k : Kind) : List Nat :=
  match k with
  | .uart => uartOffsets
  | .spi => spiOffsets c

theorem knownOffset_eq (c : Config) (k : Kind) (off : Off) :
    knownOffset c k off = (registerOffsets c k).contains off.toNat := by
  cases k <;> rfl

/-- A register table: at each register offset it has the operation whose descriptor is `desc` of that offset, and
nothing at any other. -/
def IsTable (c : Config) (offsets : List Nat) (desc : Off → Descriptor) (row : Nat → Option Instr) : Prop :=
  ∀ o, (o ∈ offsets ∧ ∃ i off, row o = some i ∧ i.descriptor c = desc off ∧ off.toNat = o) ∨
    (o ∉ offsets ∧ row o = none)

theorem uartRdRow_isTable (c : Config) (n : Nat) (z : Size) :
    IsTable c uartOffsets (rdDesc .register .uart n (some z)) (uartRdRow n z) := by
  intro o
  unfold uartRdRow
  split
  case h_21 => exact .inr ⟨by simp [uartOffsets]; and_intros <;> assumption, rfl⟩
  all_goals exact .inl ⟨by decide, _, _, rfl, rfl, rfl⟩

theorem uartWrRow_isTable (c : Config) (n : Nat) (z : Size) (val : Word) :
    IsTable c uartOffsets (wrDesc .register .uart n (some z) · val) (uartWrRow n z val) := by
  intro o
  unfold uartWrRow
  split
  case h_21 => exact .inr ⟨by simp [uartOffsets]; and_intros <;> assumption, rfl⟩
  all_goals exact .inl ⟨by decide, _, _, rfl, rfl, rfl⟩

theorem spiRdRow_isTable (c : Config) (n : Nat) (z : Size) :
    IsTable c (spiOffsets c) (rdDesc .register .spi n (some z)) (spiRdRow c n z) := by
  intro o
  unfold spiRdRow
  split
  case h_19 =>
    split
    · next h => exact .inl ⟨by simp [spiOffsets, h], _, _, rfl, rfl, h.symm⟩
    · exact .inr ⟨by simp [spiOffsets, spiFixedOffsets]; and_intros <;> assumption, rfl⟩
  all_goals exact .inl ⟨List.mem_append_left _ (by decide), _, _, rfl, rfl, rfl⟩

theorem spiWrRow_isTable (c : Config) (n : Nat) (z : Size) (val : Word) :
    IsTable c (spiOffsets c) (wrDesc .register .spi n (some z) · val) (spiWrRow c n z val) := by
  intro o
  unfold spiWrRow
  split
  case h_19 =>
    split
    · next h => exact .inl ⟨by simp [spiOffsets, h], _, _, rfl, rfl, h.symm⟩
    · exact .inr ⟨by simp [spiOffsets, spiFixedOffsets]; and_intros <;> assumption, rfl⟩
  all_goals exact .inl ⟨List.mem_append_left _ (by decide), _, _, rfl, rfl, rfl⟩

/-- What the rows of kind `k` have to be: each operation has the descriptor that selects it, `desc` of its form, size
and offset, and the register rows are a table of the kind's registers. -/
structure BusRows.Lawful (c : Config) (k : Kind) (desc : Form → Option Size → Off → Descriptor) (b : BusRows) :
    Prop where
  invalid : ∀ size off, (b.invalid size off).descriptor c = desc .invalid size off
  unknown : ∀ z off, (b.unknown z off).descriptor c = desc .unknown (some z) off
  row : ∀ z, IsTable c (registerOffsets c k) (desc .register (some z)) (b.row z)

theorem readRows_lawful (c : Config) (k : Kind) (n : Nat) : (readRows c k n).Lawful c k (rdDesc · k n) := by
  cases k with
  | uart => exact ⟨fun _ _ => rfl, fun _ _ => rfl, uartRdRow_isTable c n⟩
  | spi => exact ⟨fun _ _ => rfl, fun _ _ => rfl, spiRdRow_isTable c n⟩

theorem writeRows_lawful (c : Config) (k : Kind) (n : Nat) (val : Word) :
    (writeRows c k n val).Lawful c k (wrDesc · k n · · val) := by
  cases k with
  | uart => exact ⟨fun _ _ => rfl, fun _ _ => rfl, fun z => uartWrRow_isTable c n z val⟩
  | spi => exact ⟨fun _ _ => rfl, fun _ _ => rfl, fun z => spiWrRow_isTable c n z val⟩

/-! ## The step of R62 that an access ends in -/

/-- The step of R62 that an access of this kind, size and offset ends in. -/
def accessForm (c : Config) (k : Kind) (size : Option Size) (off : Off) : Form :=
  if validAccess (c.regionSize k) size off then if knownOffset c k off then .register else .unknown else .invalid

theorem accessForm_eq_invalid_iff {c : Config} {k : Kind} {size : Option Size} {off : Off} :
    accessForm c k size off = .invalid ↔ validAccess (c.regionSize k) size off = false := by
  unfold accessForm
  split
  · split <;> simp [*]
  · simp [*]

theorem accessForm_eq_unknown_iff {c : Config} {k : Kind} {size : Option Size} {off : Off} :
    accessForm c k size off = .unknown ↔
      validAccess (c.regionSize k) size off = true ∧ off.toNat ∉ registerOffsets c k := by
  unfold accessForm
  rw [knownOffset_eq]
  split
  · split <;> simp_all
  · simp [*]

/-- An access is invalid by its size code alone, its alignment or its end (R42, in the terms of `sel`). -/
theorem validAccess_eq_false_iff {regionSize : Nat} {size : Option Size} {off : Off} :
    validAccess regionSize size off = false ↔
      sizeCode size = 3#2 ∨ off.toNat % 2 ^ (sizeCode size).toNat ≠ 0 ∨
        regionSize < off.toNat + 2 ^ (sizeCode size).toNat := by
  cases size with
  | none => exact iff_of_true rfl (.inl rfl)
  | some z =>
    have hbytes : 2 ^ (sizeCode (some z)).toNat = z.bytes := by cases z <;> rfl
    have hcode : sizeCode (some z) ≠ 3#2 := by cases z <;> decide
    rw [← Bool.not_eq_true, validAccess_some, hbytes, or_iff_right hcode, not_and_or, not_le]

theorem BusRows.pick_invalid (b : BusRows) {regionSize : Nat} {size : Option Size} {off : Off}
    (h : validAccess regionSize size off = false) : b.pick regionSize size off = b.invalid size off := by
  cases size with
  | none => rfl
  | some z => exact if_neg (ne_true_of_eq_false h)

theorem BusRows.pick_valid (b : BusRows) {regionSize : Nat} {z : Size} {off : Off}
    (h : validAccess regionSize (some z) off = true) :
    b.pick regionSize (some z) off = (b.row z off.toNat).getD (b.unknown z off) := if_pos h

/-- The operation picked has the descriptor of the access, in the form that `accessForm` names. -/
theorem BusRows.Lawful.descriptor_pick {c : Config} {k : Kind} {desc : Form → Option Size → Off → Descriptor}
    {b : BusRows} (hb : b.Lawful c k desc) (size : Option Size) (off : Off) :
    (b.pick (c.regionSize k) size off).descriptor c = desc (accessForm c k size off) size off := by
  cases hvalid : validAccess (c.regionSize k) size off with
  | false => rw [b.pick_invalid hvalid, accessForm_eq_invalid_iff.mpr hvalid, hb.invalid]
  | true =>
    cases size with
    | none => cases hvalid
    | some z =>
      rw [b.pick_valid hvalid]
      rcases hb.row z off.toNat with ⟨hmem, i, off', hrow, hdesc, hoff⟩ | ⟨hmem, hrow⟩
      · obtain rfl := BitVec.eq_of_toNat_eq hoff
        have hform : accessForm c k (some z) off' = .register := by
          simp [accessForm, hvalid, knownOffset_eq, hmem]
        rw [hrow, hform, Option.getD_some, hdesc]
      · rw [hrow, accessForm_eq_unknown_iff.mpr ⟨hvalid, hmem⟩, Option.getD_none, hb.unknown]

theorem descriptor_decodeRead (c : Config) (k : Kind) (n : Nat) (size : Option Size) (off : Off) :
    (decodeRead c k n size off).descriptor c = rdDesc (accessForm c k size off) k n size off := by
  rw [decodeRead_eq_pick, (readRows_lawful c k n).descriptor_pick]

theorem descriptor_decodeWrite (c : Config) (k : Kind) (n : Nat) (size : Option Size) (off : Off) (val : Word) :
    (decodeWrite c k n size off val).descriptor c
      = wrDesc (accessForm c k size off) k n size off (cutValue size val) := by
  rw [decodeWrite_eq_pick, (writeRows_lawful c k n _).descriptor_pick]

/-! ## Well-formed descriptors -/

theorem Descriptor.wellFormed_of_event {c : Config} {d : Descriptor} (hinst : d.inst < c.count d.kind)
    (hform : d.form = .event) : d.wellFormed c = true := by
  simp [wellFormed, hinst, hform]

/-- The descriptor of an access is well formed when its form is the step of R62 that the access ends in. -/
theorem Descriptor.wellFormed_of_accessForm {c : Config} {d : Descriptor} (hinst : d.inst < c.count d.kind)
    (hform : d.form = accessForm c d.kind d.size d.off) (hval : valueFits d.size d.val = true) :
    d.wellFormed c = true := by
  cases hvalid : validAccess (c.regionSize d.kind) d.size d.off with
  | false => simp [wellFormed, hform, accessForm, hinst, hval, hvalid]
  | true =>
    cases hknown : knownOffset c d.kind d.off <;>
      simp [wellFormed, hform, accessForm, hinst, hval, hvalid, hknown]

/-- The value of a well-formed access has no bit above its size. -/
theorem Descriptor.cutValue_of_wellFormed {c : Config} {d : Descriptor} (hd : d.wellFormed c = true)
    (hform : d.form ≠ .event) : cutValue d.size d.val = d.val := by
  refine valueFits_iff.mp ?_
  unfold wellFormed at hd
  rw [Bool.and_eq_true] at hd
  obtain ⟨-, hd⟩ := hd
  split at hd
  case h_1 hevent => exact absurd hevent hform
  all_goals exact (Bool.and_eq_true_iff.mp hd).2

/-- The rows hold no event. -/
theorem BusRows.form_ne_event_of_entry {b : BusRows} {form : Form} {size : Option Size} {off : Off} {i : Instr}
    (h : b.entry form size off = some i) : form ≠ .event := by
  rintro rfl
  cases h

/-- A well-formed access is the operation that the rows hold for its form. -/
theorem BusRows.Lawful.pick_of_entry {c : Config} {desc : Form → Option Size → Off → Descriptor} {b : BusRows}
    {d : Descriptor} (hb : b.Lawful c d.kind desc) (hd : d.wellFormed c = true) {i : Instr}
    (hi : b.entry d.form d.size d.off = some i) : b.pick (c.regionSize d.kind) d.size d.off = i := by
  obtain ⟨form, cls, k, n, size, off, val⟩ := d
  simp only [Descriptor.wellFormed, Bool.and_eq_true] at hd
  obtain ⟨-, hd⟩ := hd
  cases form with
  | event => cases hi
  | invalid =>
    simp only [Bool.and_eq_true, Bool.not_eq_true'] at hd
    obtain ⟨hvalid, -⟩ := hd
    exact (b.pick_invalid hvalid).trans (Option.some.inj hi)
  | register =>
    simp only [Bool.and_eq_true] at hd
    obtain ⟨hvalid, -⟩ := hd
    cases size with
    | none => cases hi
    | some z =>
      have hrow : b.row z off.toNat = some i := hi
      rw [b.pick_valid hvalid, hrow, Option.getD_some]
  | unknown =>
    simp only [Bool.and_eq_true, Bool.not_eq_true', knownOffset_eq] at hd
    obtain ⟨⟨hvalid, hunknown⟩, -⟩ := hd
    cases size with
    | none => cases hi
    | some z =>
      have hi : b.unknown z off = i := Option.some.inj hi
      rcases hb.row z off.toNat with ⟨hmem, -⟩ | ⟨-, hrow⟩
      · simp [hmem] at hunknown
      · rw [b.pick_valid hvalid, hrow, Option.getD_none, hi]

/-! ## Events (R65) -/

/-- The rows of R65: the event of this id at an instance of this kind. -/
inductive EventRow (n : Nat) (val : Word) : Kind → Off → Instr → Prop
  | uartPor : EventRow n val .uart 0#24 (.uartEvtPor n)
  | uartRx : EventRow n val .uart 1#24 (.uartEvtRx n (lowByte val))
  | uartCanacc : EventRow n val .uart 2#24 (.uartEvtCanacc n)
  | spiPor : EventRow n val .spi 0#24 (.spiEvtPor n)

/-- A descriptor of class EVT decodes exactly to the rows of R65, with `lgsz` 0. -/
theorem decodeEvent_eq_ok_iff {k : Kind} {n : Nat} {lgsz : BitVec 2} {off : Off} {val : Word} {i : Instr} :
    decodeEvent k n lgsz off val = .ok i ↔ lgsz = 0#2 ∧ EventRow n val k off i := by
  constructor
  · intro h
    unfold decodeEvent at h
    split at h
    · cases h
    · next hsize =>
      split at h
      · cases h
      · next hhigh =>
        refine ⟨not_not.mp hsize, ?_⟩
        obtain ⟨b, hb⟩ : ∃ b, off.extractLsb' 0 8 = b := ⟨_, rfl⟩
        obtain rfl := (off_eq_setWidth_iff off b).mpr ⟨not_not.mp hhigh, hb⟩
        rw [hb] at h
        split at h
        case h_5 => cases h
        all_goals
          next hid =>
            have hb' : BitVec.ofNat 8 b.toNat = b := by simp
            rw [hid] at hb'
            subst hb'
            cases h
            constructor
  · rintro ⟨rfl, h⟩
    cases h <;> rfl

theorem EventRow.descriptor {n : Nat} {val : Word} {k : Kind} {off : Off} {i : Instr} (h : EventRow n val k off i)
    (c : Config) : ∃ v, i.descriptor c = evtDesc k n off v := by
  cases h <;> exact ⟨_, rfl⟩

/-- The event ids defined for each kind (R65). -/
theorem exists_eventRow_iff {n : Nat} {val : Word} {k : Kind} {off : Off} :
    (∃ i, EventRow n val k off i) ↔ off.extractLsb' 8 16 = 0#16 ∧
      (off.extractLsb' 0 8 = 0#8 ∨ (k = .uart ∧ (off.extractLsb' 0 8 = 1#8 ∨ off.extractLsb' 0 8 = 2#8))) := by
  have h0 := off_eq_setWidth_iff off 0#8
  have h1 := off_eq_setWidth_iff off 1#8
  have h2 := off_eq_setWidth_iff off 2#8
  constructor
  · rintro ⟨i, h⟩
    cases h <;> decide
  · rintro ⟨hhigh, hlow | ⟨rfl, hlow | hlow⟩⟩
    · obtain rfl := h0.mpr ⟨hhigh, hlow⟩
      cases k
      · exact ⟨_, .uartPor⟩
      · exact ⟨_, .spiPor⟩
    · obtain rfl := h1.mpr ⟨hhigh, hlow⟩
      exact ⟨_, .uartRx⟩
    · obtain rfl := h2.mpr ⟨hhigh, hlow⟩
      exact ⟨_, .uartCanacc⟩

/-! ## Decoding an encoded operation -/

/-- The rows that a descriptor's class, kind and instance choose from. -/
def Descriptor.rows (c : Config) (d : Descriptor) : BusRows :=
  match d.cls with
  | .wr => writeRows c d.kind d.inst d.val
  | _ => readRows c d.kind d.inst

theorem Config.rdrorOffset_not_fixed {c : Config} (hc : c.wf = true) : c.spi.rdrorOffset.toNat ∉ spiFixedOffsets := by
  obtain ⟨-, hp, -⟩ := Config.wf_iff.mp hc
  simp only [SpiConfig.wf, Bool.and_eq_true, Bool.not_eq_true'] at hp
  obtain ⟨-, h⟩ := hp
  simpa using h

/-- RDROR has a row of its own, for it lies apart from every other register (R4). -/
theorem spiRdRow_rdror {c : Config} (hc : c.wf = true) (n : Nat) (z : Size) :
    spiRdRow c n z c.spi.rdrorOffset.toNat = some (.spiRdRdror n z) := by
  have h := Config.rdrorOffset_not_fixed hc
  unfold spiRdRow
  split
  case h_19 => exact if_pos rfl
  all_goals
    next ho =>
      rw [ho] at h
      exact absurd (by decide) h

theorem spiWrRow_rdror {c : Config} (hc : c.wf = true) (n : Nat) (z : Size) (val : Word) :
    spiWrRow c n z val c.spi.rdrorOffset.toNat = some (.spiWrRdror n z val) := by
  have h := Config.rdrorOffset_not_fixed hc
  unfold spiWrRow
  split
  case h_19 => exact if_pos rfl
  all_goals
    next ho =>
      rw [ho] at h
      exact absurd (by decide) h

/-- Every bus access stands in the rows of its class and kind, at the place its own descriptor names: the one case split
over the operations. -/
theorem Instr.entry_rows {c : Config} (hc : c.wf = true) {i : Instr} (hbus : (i.descriptor c).cls ≠ .evt) :
    ((i.descriptor c).rows c).entry (i.descriptor c).form (i.descriptor c).size (i.descriptor c).off = some i := by
  cases i with
  | spiRdRdror n z => exact spiRdRow_rdror hc n z
  | spiWrRdror n z val => exact spiWrRow_rdror hc n z val
  | uartEvtPor | uartEvtRx | uartEvtCanacc | spiEvtPor => exact absurd rfl hbus
  | _ => rfl

theorem decode_pack_rd {c : Config} {d : Descriptor} (hinst : d.inst < c.count d.kind) (hcls : d.cls = .rd) :
    decode c d.pack = .ok (decodeRead c d.kind d.inst d.size d.off) := by
  unfold Descriptor.pack
  rw [hcls, decode_rd hinst]

theorem decode_pack_wr {c : Config} {d : Descriptor} (hinst : d.inst < c.count d.kind) (hcls : d.cls = .wr) :
    decode c d.pack = .ok (decodeWrite c d.kind d.inst d.size d.off d.val) := by
  unfold Descriptor.pack
  rw [hcls, decode_wr hinst]

theorem decode_pack_evt {c : Config} {d : Descriptor} (hinst : d.inst < c.count d.kind) (hcls : d.cls = .evt) :
    decode c d.pack = decodeEvent d.kind d.inst (sizeCode d.size) d.off d.val := by
  unfold Descriptor.pack
  rw [hcls, decode_evt hinst]

/-- Every operation of class EVT stands in the rows of R65 at its own id. -/
theorem Instr.eventRow {c : Config} {i : Instr} (hevt : (i.descriptor c).cls = .evt) :
    (i.descriptor c).size = some .b1 ∧
      EventRow (i.descriptor c).inst (i.descriptor c).val (i.descriptor c).kind (i.descriptor c).off i := by
  cases i with
  | uartEvtPor n => exact ⟨rfl, .uartPor⟩
  | uartEvtRx n b =>
    have hrow : EventRow n (byteToWord b) .uart 1#24 (.uartEvtRx n (lowByte (byteToWord b))) := .uartRx
    rw [lowByte_byteToWord] at hrow
    exact ⟨rfl, hrow⟩
  | uartEvtCanacc n => exact ⟨rfl, .uartCanacc⟩
  | spiEvtPor n => exact ⟨rfl, .spiPor⟩
  | _ => nomatch hevt

/-- Decoding undoes encoding (R62). -/
theorem decode_encode {c : Config} (hc : c.wf = true) {i : Instr} (hi : i.wellFormed c = true) :
    decode c (encode c i) = .ok i := by
  have hinst := Instr.inst_lt_count hi
  cases hcls : (i.descriptor c).cls with
  | rd =>
    have hentry := i.entry_rows hc (by rw [hcls]; nofun)
    simp only [Descriptor.rows, hcls] at hentry
    rw [encode, decode_pack_rd hinst hcls, decodeRead_eq_pick, (readRows_lawful _ _ _).pick_of_entry hi hentry]
  | wr =>
    have hentry := i.entry_rows hc (by rw [hcls]; nofun)
    simp only [Descriptor.rows, hcls] at hentry
    have hval := Descriptor.cutValue_of_wellFormed hi (BusRows.form_ne_event_of_entry hentry)
    rw [encode, decode_pack_wr hinst hcls, decodeWrite_eq_pick, hval,
      (writeRows_lawful _ _ _ _).pick_of_entry hi hentry]
  | evt =>
    obtain ⟨hsize, hrow⟩ := Instr.eventRow hcls
    rw [encode, decode_pack_evt hinst hcls, hsize, decodeEvent_eq_ok_iff]
    exact ⟨rfl, hrow⟩

/-! ## What a request decodes to -/

/-- A request that decodes has the fields of a descriptor, names an instance that exists, and is a read, a write or an
event. -/
theorem decode_ok_cases {c : Config} {r : Request} {i : Instr} (h : decode c r = .ok i) :
    ∃ cls k size off, r.sel = packSel cls size k off ∧ r.inst < c.count k ∧
      (cls = .rd ∧ i = decodeRead c k r.inst size off ∨ cls = .wr ∧ i = decodeWrite c k r.inst size off r.val ∨
        cls = .evt ∧ decodeEvent k r.inst (sizeCode size) off r.val = .ok i) := by
  unfold decode at h
  dsimp only at h
  split at h
  case h_1 => cases h
  case h_2 => cases h
  case h_3 cls k hcls hkind =>
    have hsel := eq_packSel (clsOfCode_eq_some.mp hcls) (kindOfCode_eq_some.mp hkind)
    split at h
    · cases h
    · next hinst =>
      refine ⟨cls, k, _, _, hsel, Nat.lt_of_not_le hinst, ?_⟩
      cases cls with
      | rd => exact .inl ⟨rfl, (Except.ok.inj h).symm⟩
      | wr => exact .inr (.inl ⟨rfl, (Except.ok.inj h).symm⟩)
      | evt => exact .inr (.inr ⟨rfl, by rwa [sizeCode_sizeOfCode]⟩)

/-- The descriptor of what a request decodes to: the fields of the request, and the form that R62 gives it. -/
theorem descriptor_of_decode_ok {c : Config} {r : Request} {i : Instr} (h : decode c r = .ok i) :
    (i.descriptor c).inst = r.inst ∧ r.inst < c.count (i.descriptor c).kind ∧
      r.sel = packSel (i.descriptor c).cls (i.descriptor c).size (i.descriptor c).kind (i.descriptor c).off ∧
      ((i.descriptor c).cls = .evt ∧ (i.descriptor c).form = .event ∨
        (i.descriptor c).cls ≠ .evt ∧ valueFits (i.descriptor c).size (i.descriptor c).val = true ∧
          (i.descriptor c).form
            = accessForm c (i.descriptor c).kind (i.descriptor c).size (i.descriptor c).off) := by
  obtain ⟨cls, k, size, off, hsel, hinst, ⟨rfl, rfl⟩ | ⟨rfl, rfl⟩ | ⟨rfl, hevt⟩⟩ := decode_ok_cases h
  · rw [descriptor_decodeRead]
    exact ⟨rfl, hinst, hsel, .inr ⟨nofun, valueFits_zero size, rfl⟩⟩
  · rw [descriptor_decodeWrite]
    exact ⟨rfl, hinst, hsel, .inr ⟨nofun, valueFits_cutValue size r.val, rfl⟩⟩
  · obtain ⟨hsize, hrow⟩ := decodeEvent_eq_ok_iff.mp hevt
    obtain rfl : size = some .b1 := by rw [← sizeOfCode_sizeCode size, hsize]; rfl
    obtain ⟨v, hd⟩ := hrow.descriptor c
    rw [hd]
    exact ⟨rfl, hinst, hsel, .inl ⟨rfl, rfl⟩⟩

/-- A request with these `cls` and `kind` codes is the one that its fields are packed to. -/
theorem Request.eq_of_codes {r : Request} {cls : Cls} {k : Kind} (hcls : r.sel.extractLsb' 30 2 = clsCode cls)
    (hkind : r.sel.extractLsb' 24 4 = kindCode k) :
    r = { r with sel := packSel cls (sizeOfCode (r.sel.extractLsb' 28 2)) k (r.sel.extractLsb' 0 24) } := by
  rw [← eq_packSel hcls hkind]

end Sys2Proof

namespace Sys2Proof.Proofs

open Sys2Proof.Machine

/-- Settles O3: an operation stands in the rows where its own descriptor points, and well-formedness makes the decoder
pick it there. -/
theorem decodeOfEncodeIsTheOperation : Obligations.DecodeOfEncodeIsTheOperation :=
  fun _ _ hc hi => decode_encode hc hi

/-- Settles O4: the form is the one R62 gives, the value is cut, and `sel` is packed from the fields. -/
theorem decodedOperationsAreWellFormed : Obligations.DecodedOperationsAreWellFormed := by
  intro c r i h
  obtain ⟨hinst, hcount, hsel, hform⟩ := descriptor_of_decode_ok h
  rw [← hinst] at hcount
  refine ⟨?_, hinst, hsel.symm⟩
  rcases hform with ⟨-, hevent⟩ | ⟨-, hval, hform⟩
  · exact Descriptor.wellFormed_of_event hcount hevent
  · exact Descriptor.wellFormed_of_accessForm hcount hform hval

/-- Settles O5: a request is packed from its fields as soon as `cls` and `kind` are codes; then only an event can be
refused. -/
theorem decoderRefusesExactlyNonOperations : Obligations.DecoderRefusesExactlyNonOperations := by
  intro c r
  constructor
  · rintro ⟨i, h⟩
    obtain ⟨cls, k, size, off, hsel, hinst, hcases⟩ := decode_ok_cases h
    refine ⟨k, ?_, hinst, ?_⟩
    · rw [hsel, packSel_kind]
    · rw [hsel, packSel_cls, packSel_lgsz, ← BitVec.extractLsb'_extractLsb'_of_le (show 8 + 16 ≤ 24 by decide),
        ← BitVec.extractLsb'_extractLsb'_of_le (show 0 + 8 ≤ 24 by decide), packSel_off]
      rcases hcases with ⟨rfl, -⟩ | ⟨rfl, -⟩ | ⟨rfl, hevt⟩
      · exact .inl rfl
      · exact .inr (.inl rfl)
      · obtain ⟨hsize, hrow⟩ := decodeEvent_eq_ok_iff.mp hevt
        exact .inr (.inr ⟨rfl, hsize, exists_eventRow_iff.mp ⟨i, hrow⟩⟩)
  · rintro ⟨k, hkind, hinst, hcls | hcls | ⟨hcls, hsize, hid⟩⟩
    · rw [Request.eq_of_codes (cls := .rd) hcls hkind]
      exact ⟨_, decode_rd hinst⟩
    · rw [Request.eq_of_codes (cls := .wr) hcls hkind]
      exact ⟨_, decode_wr hinst⟩
    · rw [← BitVec.extractLsb'_extractLsb'_of_le (show 8 + 16 ≤ 24 by decide),
        ← BitVec.extractLsb'_extractLsb'_of_le (show 0 + 8 ≤ 24 by decide)] at hid
      obtain ⟨i, hrow⟩ := (exists_eventRow_iff (n := r.inst) (val := r.val)).mpr hid
      rw [Request.eq_of_codes (cls := .evt) hcls hkind]
      refine ⟨i, (decode_evt hinst).trans (decodeEvent_eq_ok_iff.mpr ⟨?_, hrow⟩)⟩
      rw [sizeCode_sizeOfCode, hsize]

/-- Settles O6: the form of a decoded bus access is `accessForm` of its kind, size and offset. -/
theorem invalidAccessesAreDecodedBeforeAnyRow : Obligations.InvalidAccessesAreDecodedBeforeAnyRow := by
  intro c r i h hbus
  obtain ⟨-, -, hsel, ⟨hevt, -⟩ | ⟨-, -, hform⟩⟩ := descriptor_of_decode_ok h
  · exact absurd hevt hbus
  · rw [hsel, packSel_lgsz, packSel_off, hform]
    refine ⟨accessForm_eq_invalid_iff.trans validAccess_eq_false_iff, ?_⟩
    rw [Ne, accessForm_eq_invalid_iff, Bool.not_eq_false, accessForm_eq_unknown_iff]
    rfl

end Sys2Proof.Proofs
end

section
/-!
PROOFS. Accesses that the tables of 30_encoding.md answer with a guest error (rules R66, R67), the descriptors written
out in the spec (R61), and the pseudo-operations that write CR (R71).
-/

namespace Sys2Proof.Machine

/-! ## The kind of a guest error on a UART (R67) -/

theorem invalidKind_ne_readOfWriteOnly (size : Option Size) (off : Off) :
    invalidKind size off ≠ .readOfWriteOnly := by
  cases size with
  | none => nofun
  | some z =>
    rw [invalidKind_some]
    split <;> nofun

/-- No UART register is write-only: whatever rule a UART operation runs reports another kind, if any. -/
theorem exec_uart_reply {i : Instr} {s : State} (hk : (i.descriptor s.cfg).kind = .uart) :
    ∃ rule, exec i s = onUart (i.descriptor s.cfg).inst rule s ∧
      ∀ u, (rule u).2.error ≠ some .readOfWriteOnly := by
  cases i with
  | uartRdInvalid _ size off | uartWrInvalid _ size off =>
    exact ⟨_, rfl, fun _ h => invalidKind_ne_readOfWriteOnly size off (Option.some.inj h)⟩
  | uartRdVerid | uartRdParam | uartRdGlobal | uartRdPincfg | uartRdBaud | uartRdStat | uartRdCtrl | uartRdData
  | uartRdMatch | uartRdModir | uartRdFifo | uartRdWater | uartRdDataro | uartRdMcr | uartRdMsr | uartRdReir
  | uartRdTeir | uartRdHdcr | uartRdTocr | uartRdTosr | uartRdUnknown | uartWrVerid | uartWrParam | uartWrGlobal
  | uartWrPincfg | uartWrBaud | uartWrStat | uartWrCtrl | uartWrData | uartWrMatch | uartWrModir | uartWrFifo
  | uartWrWater | uartWrDataro | uartWrMcr | uartWrMsr | uartWrReir | uartWrTeir | uartWrHdcr | uartWrTocr
  | uartWrTosr | uartWrUnknown | uartEvtPor | uartEvtRx | uartEvtCanacc => exact ⟨_, rfl, fun _ => nofun⟩
  | _ => nomatch hk

/-! ## The CR write (R212) -/

/-- A CR write without RST stores the word, sets `enabled`, and clears the FIFOs it names. -/
theorem Spi.writeCr_of_no_rst {c : Config} {w : Word} (p : Spi) (h : w.getLsbD 1 = false) :
    p.writeCr c w
      = { p.setReg .cr (w &&& ~~~0x00000302#32) with
          enabled := w.getLsbD 0
          tx := if w.getLsbD 8 then [] else p.tx
          rx := if w.getLsbD 9 then [] else p.rx } := by
  unfold Spi.writeCr
  rw [if_neg (ne_true_of_eq_false h)]
  cases w.getLsbD 8 <;> cases w.getLsbD 9 <;> rfl

/-- A CR write with RST is the soft reset. -/
theorem Spi.writeCr_of_rst {c : Config} {w : Word} (p : Spi) (h : w.getLsbD 1 = true) :
    p.writeCr c w = p.softReset c := if_pos h

/-- A word-size CR write leaves everything but its instance and the reply alone. -/
theorem exec_spiWrCr {s : State} {n : Nat} {p : Spi} (w : Word) (hp : s.spis[n]? = some p) :
    ∃ t, exec (.spiWrCr n .b4 w) s = .next t ∧ OnlySpi n (p.writeCr s.cfg w) s t := by
  refine ⟨_, onSpi_next _ hp, ?_⟩
  rw [zextSize_b4]
  exact onlySpi_set _ _ hp

/-- A word-size CR write without RST clears the FIFOs it names, and changes no stored word but CR. -/
theorem exec_spiWrCr_of_no_rst {s : State} {n : Nat} {p : Spi} {w : Word} (h : w.getLsbD 1 = false)
    (hp : s.spis[n]? = some p) :
    ∃ t q, exec (.spiWrCr n .b4 w) s = .next t ∧ OnlySpi n q s t ∧ q.tx = (if w.getLsbD 8 then [] else p.tx) ∧
      q.rx = (if w.getLsbD 9 then [] else p.rx) ∧ q.enabled = w.getLsbD 0 ∧
      q.reg .cr = w &&& ~~~0x00000302#32 ∧ ∀ r, r ≠ .cr → q.reg r = p.reg r := by
  obtain ⟨t, ht, honly⟩ := exec_spiWrCr w hp
  rw [Spi.writeCr_of_no_rst p h] at honly
  exact ⟨t, _, ht, honly, rfl, rfl, rfl, Spi.reg_setReg p .cr .cr _,
    fun r hr => (Spi.reg_setReg p .cr r _).trans (if_neg hr)⟩

end Sys2Proof.Machine

namespace Sys2Proof.Proofs

open Sys2Proof.Machine

/-- Settles O2: each word is decoded. -/
theorem writtenOutWordsDecode : Obligations.WrittenOutWordsDecode := by
  unfold Obligations.WrittenOutWordsDecode
  decide

/-- Settles O16: each of the four raises the guest error. -/
theorem unknownOffsetsAreGuestErrors : Obligations.UnknownOffsetsAreGuestErrors :=
  fun _ _ _ _ _ =>
    ⟨fun _ hu => ⟨uartGuestError_next _ true hu, uartGuestError_next _ false hu⟩,
      fun _ hp => ⟨spiGuestError_next _ true hp, spiGuestError_next _ false hp⟩⟩

/-- Settles O17: each of the ten raises the guest error, and no UART rule reports ReadOfWriteOnly. -/
theorem accessClassViolationsAreGuestErrors : Obligations.AccessClassViolationsAreGuestErrors := by
  intro s n z val
  refine ⟨fun u hu => ?_, fun p hp => ⟨?_, spiGuestError_next _ true hp⟩, fun i t hk h => ?_⟩
  · have hwrite := uartGuestError_next .writeToReadOnly false hu
    simp only [List.forall_mem_cons, List.not_mem_nil, false_implies, implies_true, and_true]
    exact ⟨hwrite, hwrite, hwrite⟩
  · have hwrite := spiGuestError_next .writeToReadOnly false hp
    simp only [List.forall_mem_cons, List.not_mem_nil, false_implies, implies_true, and_true]
    exact ⟨hwrite, hwrite, hwrite, hwrite, hwrite, hwrite⟩
  · obtain ⟨rule, hexec, herror⟩ := exec_uart_reply hk
    obtain ⟨u, -, rfl⟩ := onUart_inv (hexec.symm.trans h)
    exact herror u

/-- Settles O56: the three expand to CR writes, two without RST and one with it. -/
theorem flushKeepsOrDropsEnable : Obligations.FlushKeepsOrDropsEnable := by
  intro s n on p hp
  refine ⟨?_, ?_, ?_⟩
  · cases on <;> exact exec_spiWrCr_of_no_rst rfl hp
  · cases on <;> exact exec_spiWrCr_of_no_rst rfl hp
  · obtain ⟨t, ht, honly⟩ := exec_spiWrCr 0x00000002#32 hp
    rw [Spi.writeCr_of_rst p rfl] at honly
    exact ⟨t, _, ht, honly, rfl, rfl, rfl⟩

end Sys2Proof.Proofs
end

section
/-!
PROOFS. The circular buffer of 10_state.md rule R31 stands for the list of the elements it holds: each primitive of
40_common.md rules R90 to R93 on the buffer is the list primitive on that list (rule R94). The one fact of arithmetic
is that fewer than `cap` steps from a slot never lead back to it (`slot_ne`).
-/

namespace Sys2Proof.Machine

/-! ## Slots -/

/-- Two different distances below the capacity lead from the head to different slots. -/
theorem slot_ne {cap k n : Nat} (head : Nat) (hkn : k < n) (hn : n < cap) : (head + k) % cap ≠ (head + n) % cap := by
  intro h
  have hmod : k % cap = n % cap := Nat.ModEq.add_left_cancel' head h
  rw [Nat.mod_eq_of_lt (hkn.trans hn), Nat.mod_eq_of_lt hn] at hmod
  exact hkn.ne hmod

namespace Ring

variable {m cap : Nat} {f : Ring m}

/-! ## The elements held (R31) -/

@[simp] theorem held_length (cap : Nat) (f : Ring m) : (f.held cap).length = f.count := by
  simp [held]

theorem held_of_count_eq_zero (cap : Nat) (h : f.count = 0) : f.held cap = [] := by
  rw [← List.length_eq_zero_iff, held_length, h]

/-! ## Push (R90) -/

theorem push_of_full (e : BitVec m) (h : f.count = cap) : f.push cap e = (false, f) := if_pos h

theorem push_of_room (e : BitVec m) (h : f.count < cap) :
    f.push cap e
      = (true, { f with buf := f.buf.set f.tail e, tail := (f.tail + 1) % cap, count := f.count + 1 }) :=
  if_neg h.ne

/-- A push keeps the invariants of R31. -/
theorem wf_push (hf : f.wf cap) (e : BitVec m) : (f.push cap e).2.wf cap := by
  have ⟨hcap, hbuf, hhead, hcount, htail⟩ := hf
  rcases hcount.eq_or_lt with hfull | hroom
  · rw [push_of_full e hfull]
    exact hf
  · rw [push_of_room e hroom]
    refine ⟨hcap, List.length_set.trans hbuf, hhead, hroom, ?_⟩
    rw [htail, Nat.mod_add_mod, Nat.add_assoc]

/-- A push with room adds the element after those held: it is written to a slot that holds none of them. -/
theorem held_push_of_room (hf : f.wf cap) (e : BitVec m) (hroom : f.count < cap) :
    (f.push cap e).2.held cap = f.held cap ++ [e] := by
  obtain ⟨hcap, hbuf, -, -, htail⟩ := hf
  have htail_lt : f.tail < f.buf.length := by
    rw [htail, hbuf]
    exact Nat.mod_lt _ hcap
  have hold : ∀ k ∈ List.range f.count,
      (f.buf.set f.tail e).getD ((f.head + k) % cap) 0 = f.buf.getD ((f.head + k) % cap) 0 := by
    intro k hk
    have hne : f.tail ≠ (f.head + k) % cap := htail ▸ (slot_ne f.head (List.mem_range.mp hk) hroom).symm
    rw [List.getD_eq_getElem?_getD, List.getD_eq_getElem?_getD, List.getElem?_set_ne hne]
  have hnew : (f.buf.set f.tail e).getD ((f.head + f.count) % cap) 0 = e := by
    rw [← htail, List.getD_eq_getElem?_getD, List.getElem?_set_self htail_lt, Option.getD_some]
  rw [push_of_room e hroom]
  unfold held
  rw [List.range_succ, List.map_append, List.map_singleton, hnew, List.map_congr_left hold]

/-- A push on the buffer is a push on the elements held (R90, R94). -/
theorem push_refines (hf : f.wf cap) (e : BitVec m) :
    ((f.push cap e).1, (f.push cap e).2.held cap) = fifoPush cap (f.held cap) e := by
  have ⟨_, _, _, hcount, _⟩ := hf
  rcases hcount.eq_or_lt with hfull | hroom
  · rw [push_of_full e hfull, fifoPush_full e (by rw [held_length, hfull])]
  · rw [held_push_of_room hf e hroom, push_of_room e hroom, fifoPush_room e (by rwa [held_length])]

/-! ## Pop and peek (R91, R92) -/

theorem pop_of_empty (cap : Nat) (h : f.count = 0) : f.pop cap = (false, 0, f) := if_pos h

theorem pop_of_pos (cap : Nat) (h : 0 < f.count) :
    f.pop cap = (true, f.buf.getD f.head 0, { f with head := (f.head + 1) % cap, count := f.count - 1 }) :=
  if_neg h.ne'

/-- A pop keeps the invariants of R31. -/
theorem wf_pop (hf : f.wf cap) : (f.pop cap).2.2.wf cap := by
  have ⟨hcap, hbuf, hhead, hcount, htail⟩ := hf
  rcases Nat.eq_zero_or_pos f.count with hempty | hpos
  · rw [pop_of_empty cap hempty]
    exact hf
  · rw [pop_of_pos cap hpos]
    refine ⟨hcap, hbuf, Nat.mod_lt _ hcap, (Nat.sub_le _ _).trans hcount, ?_⟩
    change f.tail = ((f.head + 1) % cap + (f.count - 1)) % cap
    rw [htail, Nat.mod_add_mod, Nat.add_assoc, Nat.add_sub_cancel' hpos]

/-- A buffer that is not empty holds the element at its head, and then those it holds after a pop. -/
theorem held_eq_cons (hf : f.wf cap) (hpos : 0 < f.count) :
    f.held cap = f.buf.getD f.head 0 :: (f.pop cap).2.2.held cap := by
  obtain ⟨-, -, hhead, -, -⟩ := hf
  rw [pop_of_pos cap hpos]
  unfold held
  obtain ⟨n, hn⟩ : ∃ n, f.count = n + 1 := ⟨f.count - 1, by omega⟩
  simp only [hn, Nat.add_sub_cancel, List.range_succ_eq_map, List.map_cons, List.map_map, Nat.add_zero,
    Nat.mod_eq_of_lt hhead]
  congr 1
  refine List.map_congr_left fun k _ => ?_
  rw [Function.comp_apply, Nat.mod_add_mod, Nat.succ_eq_add_one, Nat.add_right_comm, Nat.add_assoc]

/-- A pop on the buffer is a pop on the elements held (R91, R94). -/
theorem pop_refines (hf : f.wf cap) :
    ((f.pop cap).1, (f.pop cap).2.1, (f.pop cap).2.2.held cap) = fifoPop (f.held cap) := by
  rcases Nat.eq_zero_or_pos f.count with hempty | hpos
  · rw [pop_of_empty cap hempty, held_of_count_eq_zero cap hempty, fifoPop_nil]
  · rw [held_eq_cons hf hpos, fifoPop_cons, pop_of_pos cap hpos]

/-- A peek on the buffer is a peek on the elements held (R92, R94). -/
theorem peek_refines (hf : f.wf cap) : f.peek = fifoPeek (f.held cap) := by
  rcases Nat.eq_zero_or_pos f.count with hempty | hpos
  · rw [held_of_count_eq_zero cap hempty, fifoPeek_nil]
    exact if_pos hempty
  · rw [held_eq_cons hf hpos, fifoPeek_cons]
    exact if_neg hpos.ne'

/-! ## Clear (R93) -/

/-- A clear keeps the invariants of R31. -/
theorem wf_clear (hf : f.wf cap) : f.clear.wf cap := by
  obtain ⟨hcap, hbuf, -, -, -⟩ := hf
  exact ⟨hcap, hbuf, hcap, Nat.zero_le _, (Nat.zero_mod _).symm⟩

theorem held_clear (cap : Nat) (f : Ring m) : f.clear.held cap = [] := held_of_count_eq_zero cap rfl

/-! ## Sequences of primitives (R94) -/

/-- Any sequence of pushes and pops keeps the invariants of R31. -/
theorem wf_runAll (hf : f.wf cap) (ops : List (RingOp m)) : (f.runAll cap ops).wf cap := by
  induction ops generalizing f with
  | nil => exact hf
  | cons o ops ih =>
    cases o with
    | push e => exact ih (wf_push hf e)
    | pop => exact ih (wf_pop hf)

/-- Pushes that all find room add their elements in order. -/
theorem held_pushAll (hf : f.wf cap) (es : List (BitVec m)) (hroom : f.count + es.length ≤ cap) :
    (f.pushAll cap es).held cap = f.held cap ++ es := by
  induction es generalizing f with
  | nil => exact (List.append_nil _).symm
  | cons e es ih =>
    rw [List.length_cons] at hroom
    have hlt : f.count < cap := by omega
    have hpushed : (f.push cap e).2.held cap = f.held cap ++ [e] := held_push_of_room hf e hlt
    have hcount : (f.push cap e).2.count = f.count + 1 := by rw [push_of_room e hlt]
    calc (f.pushAll cap (e :: es)).held cap
        = ((f.push cap e).2.pushAll cap es).held cap := rfl
      _ = (f.push cap e).2.held cap ++ es := ih (wf_push hf e) (by omega)
      _ = f.held cap ++ e :: es := by rw [hpushed, List.append_assoc, List.singleton_append]

/-- Popping as often as elements are held returns them in order. -/
theorem popAll_of_held (hf : f.wf cap) {es : List (BitVec m)} (h : f.held cap = es) :
    f.popAll cap es.length = es := by
  induction es generalizing f with
  | nil => rfl
  | cons e es ih =>
    have hpop := pop_refines hf
    rw [h, fifoPop_cons, Prod.mk.injEq, Prod.mk.injEq] at hpop
    obtain ⟨-, hfirst, hrest⟩ := hpop
    rw [List.length_cons, popAll, hfirst, ih (wf_pop hf) hrest]

/-- After a clear, elements that fit are popped in the order they were pushed. -/
theorem popAll_pushAll_clear (hf : f.wf cap) {es : List (BitVec m)} (hfit : es.length ≤ cap) :
    (f.clear.pushAll cap es).popAll cap es.length = es := by
  have hheld : (f.clear.pushAll cap es).held cap = es := by
    rw [held_pushAll (wf_clear hf) es ((Nat.zero_add _).trans_le hfit), held_clear, List.nil_append]
  exact popAll_of_held (wf_runAll (wf_clear hf) _) hheld

end Ring

end Sys2Proof.Machine

namespace Sys2Proof.Proofs

open Sys2Proof.Machine

/-- Settles O51: each primitive refines the list primitive, and the sequences follow by induction. -/
theorem ringBufferRefinesList : Obligations.RingBufferRefinesList := by
  intro m cap f e hf
  have ⟨_, _, _, hcount, _⟩ := hf
  have hpush := Ring.push_refines hf e
  have hpop := Ring.pop_refines hf
  have hpeek := Ring.peek_refines hf
  refine ⟨Ring.held_length cap f, (Ring.held_length cap f).trans_le hcount, ⟨Ring.wf_push hf e, hpush, hpush⟩,
    ⟨Ring.wf_pop hf, hpop, hpop⟩, ⟨hpeek, hpeek⟩, ⟨Ring.wf_clear hf, Ring.held_clear cap f, fifoClear_eq _⟩,
    fun ops => ?_, fun es hfit => Ring.popAll_pushAll_clear hf hfit⟩
  have ⟨_, _, _, hbound, _⟩ := Ring.wf_runAll hf ops
  exact hbound

end Sys2Proof.Proofs
end

section
/-!
PROOFS. The guest error (40_common.md rule R96; 60_exceptions.md rules R240, R247) and the plain accesses (rules R97,
R98). Of the ninety operations, some only raise a guest error on the instance they name, and no other one's reply
carries one (`exec_error_shape`).
-/

namespace Sys2Proof.Machine

/-! ## Which operations raise a guest error (R96) -/

/-- The class of the bus access that raised a guest error. -/
def accessCls (isRead : Bool) : Cls := if isRead then .rd else .wr

/-- What `i` does at `s`, by its guest errors: its rule never reports one, or it raises one and does nothing else. -/
inductive ErrorShape (i : Instr) (s : State) : Prop
  | uartNever (rule : Uart → Uart × Reply) (hexec : exec i s = onUart (i.descriptor s.cfg).inst rule s)
      (hnone : ∀ u, (rule u).2.error = none)
  | uartRaises (kind : GuestError) (isRead : Bool)
      (hexec : exec i s = uartGuestError (i.descriptor s.cfg).inst kind isRead s)
      (hcls : (i.descriptor s.cfg).cls = accessCls isRead)
  | spiNever (rule : Spi → Spi × Reply) (hexec : exec i s = onSpi (i.descriptor s.cfg).inst rule s)
      (hnone : ∀ p, (rule p).2.error = none)
  | spiRaises (kind : GuestError) (isRead : Bool)
      (hexec : exec i s = spiGuestError (i.descriptor s.cfg).inst kind isRead s)
      (hcls : (i.descriptor s.cfg).cls = accessCls isRead)

/-- The INVALID and UNKNOWN accesses, the writes to a read-only register and the TDR read raise a guest error; no other
operation does. -/
theorem exec_error_shape (i : Instr) (s : State) : ErrorShape i s := by
  cases i with
  | uartRdUnknown | uartRdInvalid => exact .uartRaises _ true rfl rfl
  | uartWrVerid | uartWrParam | uartWrDataro | uartWrUnknown | uartWrInvalid => exact .uartRaises _ false rfl rfl
  | spiRdTdr | spiRdUnknown | spiRdInvalid => exact .spiRaises _ true rfl rfl
  | spiWrVerid | spiWrParam | spiWrFsr | spiWrRsr | spiWrRdr | spiWrRdror | spiWrUnknown | spiWrInvalid =>
    exact .spiRaises _ false rfl rfl
  | uartRdVerid | uartRdParam | uartRdGlobal | uartRdPincfg | uartRdBaud | uartRdStat | uartRdCtrl | uartRdData
  | uartRdMatch | uartRdModir | uartRdFifo | uartRdWater | uartRdDataro | uartRdMcr | uartRdMsr | uartRdReir
  | uartRdTeir | uartRdHdcr | uartRdTocr | uartRdTosr | uartWrGlobal | uartWrPincfg | uartWrBaud | uartWrStat
  | uartWrCtrl | uartWrData | uartWrMatch | uartWrModir | uartWrFifo | uartWrWater | uartWrMcr | uartWrMsr
  | uartWrReir | uartWrTeir | uartWrHdcr | uartWrTocr | uartWrTosr | uartEvtPor | uartEvtRx | uartEvtCanacc =>
    exact .uartNever _ rfl fun _ => rfl
  | spiRdVerid | spiRdParam | spiRdCr | spiRdSr | spiRdIer | spiRdDer | spiRdCfgr0 | spiRdCfgr1 | spiRdDmr0
  | spiRdDmr1 | spiRdCcr | spiRdCcr1 | spiRdFcr | spiRdFsr | spiRdTcr | spiRdRsr | spiRdRdr | spiRdRdror | spiWrCr
  | spiWrSr | spiWrIer | spiWrDer | spiWrCfgr0 | spiWrCfgr1 | spiWrDmr0 | spiWrDmr1 | spiWrCcr | spiWrCcr1
  | spiWrFcr | spiWrTcr | spiWrTdr | spiEvtPor => exact .spiNever _ rfl fun _ => rfl

/-- A guest error on a UART that answers a next state changed the reply only (R96). -/
theorem uartGuestError_inv {n : Nat} {kind : GuestError} {isRead : Bool} {s t : State}
    (h : uartGuestError n kind isRead s = .next t) : t = { s with reply := raiseGuestError kind isRead } := by
  obtain ⟨u, hu, -⟩ := onUart_inv h
  exact Host.Outcome.next.inj (h.symm.trans (uartGuestError_next kind isRead hu))

/-- A guest error on an SPI that answers a next state changed the reply only (R96). -/
theorem spiGuestError_inv {n : Nat} {kind : GuestError} {isRead : Bool} {s t : State}
    (h : spiGuestError n kind isRead s = .next t) : t = { s with reply := raiseGuestError kind isRead } := by
  obtain ⟨p, hp, -⟩ := onSpi_inv h
  exact Host.Outcome.next.inj (h.symm.trans (spiGuestError_next kind isRead hp))

/-- An operation whose reply carries a guest error raised it on a bus access, and changed the reply only (R96). -/
theorem exec_error_inv {i : Instr} {s t : State} {k : GuestError} (h : exec i s = .next t)
    (herror : t.reply.error = some k) :
    ∃ isRead, (i.descriptor s.cfg).cls = accessCls isRead ∧ t = { s with reply := raiseGuestError k isRead } := by
  cases exec_error_shape i s with
  | uartNever rule hexec hnone =>
    obtain ⟨u, -, rfl⟩ := onUart_inv (hexec.symm.trans h)
    exact nomatch (hnone u).symm.trans herror
  | spiNever rule hexec hnone =>
    obtain ⟨p, -, rfl⟩ := onSpi_inv (hexec.symm.trans h)
    exact nomatch (hnone p).symm.trans herror
  | uartRaises kind isRead hexec hcls =>
    obtain rfl := uartGuestError_inv (hexec.symm.trans h)
    obtain rfl : kind = k := Option.some.inj herror
    exact ⟨isRead, hcls, rfl⟩
  | spiRaises kind isRead hexec hcls =>
    obtain rfl := spiGuestError_inv (hexec.symm.trans h)
    obtain rfl : kind = k := Option.some.inj herror
    exact ⟨isRead, hcls, rfl⟩

/-! ## Plain accesses (R97, R98) -/

/-- A stored UART word changes nothing else of its instance. -/
theorem Uart.sameBut_setReg (u : Uart) (r : UartReg) (w : Word) : Uart.SameBut [r] u (u.setReg r w) :=
  ⟨rfl, rfl, rfl, fun q hq => (Uart.reg_setReg u r q w).trans (if_neg (mt List.mem_singleton.mpr hq))⟩

/-- A stored SPI word changes nothing else of its instance. -/
theorem Spi.sameBut_setReg (p : Spi) (r : SpiReg) (w : Word) : Spi.SameBut [r] p (p.setReg r w) :=
  ⟨rfl, rfl, rfl, rfl, rfl, fun q hq => (Spi.reg_setReg p r q w).trans (if_neg (mt List.mem_singleton.mpr hq))⟩

/-- A plain read of a UART register answers the stored word, truncated, and changes nothing but the reply (R97). -/
theorem uartRead_plain {n : Nat} {s : State} {u : Uart} (z : Size) (r : UartReg) (hu : s.uarts[n]? = some u) :
    uartRead n z (Uart.plainRead r) s = .next { s with reply := .ofValue (truncSize z (u.reg r)) } :=
  uartRead_pure z hu rfl

/-- A plain read of an SPI register answers the stored word, truncated, and changes nothing but the reply (R97). -/
theorem spiRead_plain {n : Nat} {s : State} {p : Spi} (z : Size) (r : SpiReg) (hp : s.spis[n]? = some p) :
    spiRead n z (Spi.plainRead r) s = .next { s with reply := .ofValue (truncSize z (p.reg r)) } :=
  spiRead_pure z hp rfl

/-- A plain write of a UART register stores the zero-extended value and changes nothing else (R98). -/
theorem uartWrite_plain {n : Nat} {s : State} {u : Uart} (z : Size) (val : Word) (r : UartReg)
    (hu : s.uarts[n]? = some u) :
    ∃ t v, uartWrite n z val (Uart.plainWrite r) s = .next t ∧ OnlyUart n v s t ∧ t.reply = .done ∧
      v.reg r = zextSize z val ∧ Uart.SameBut [r] u v :=
  ⟨_, u.setReg r (zextSize z val), onUart_next _ hu, onlyUart_set _ _ hu, rfl,
    (Uart.reg_setReg u r r _).trans (if_pos rfl), u.sameBut_setReg r _⟩

/-- A plain write of an SPI register stores the zero-extended value and changes nothing else (R98). -/
theorem spiWrite_plain {n : Nat} {s : State} {p : Spi} (z : Size) (val : Word) (r : SpiReg)
    (hp : s.spis[n]? = some p) :
    ∃ t q, spiWrite n z val (Spi.plainWrite r) s = .next t ∧ OnlySpi n q s t ∧ t.reply = .done ∧
      q.reg r = zextSize z val ∧ Spi.SameBut [r] p q :=
  ⟨_, p.setReg r (zextSize z val), onSpi_next _ hp, onlySpi_set _ _ hp, rfl,
    (Spi.reg_setReg p r r _).trans (if_pos rfl), p.sameBut_setReg r _⟩

end Sys2Proof.Machine

namespace Sys2Proof.Proofs

open Sys2Proof.Machine

/-- Settles O14: the guest error was raised by a read or by a write, and `raiseGuestError` answers each. -/
theorem guestErrorsChangeNothing : Obligations.GuestErrorsChangeNothing := by
  intro i s t k h herror
  obtain ⟨isRead, hcls, rfl⟩ := exec_error_inv h herror
  refine ⟨rfl, ?_⟩
  cases isRead with
  | true => exact .inl ⟨hcls, raiseGuestError_read k⟩
  | false => exact .inr ⟨hcls, raiseGuestError_write k⟩

/-- Settles O20: each of the listed reads is a plain read of its register. -/
theorem plainReadsReturnTheStoredWord : Obligations.PlainReadsReturnTheStoredWord := by
  intro s n z
  refine ⟨fun u hu => ?_, fun p hp => ?_⟩
  · have hread := fun r => uartRead_plain z r hu
    simp only [List.forall_mem_cons, List.not_mem_nil, false_implies, implies_true, and_true]
    and_intros <;> exact hread _
  · have hread := fun r => spiRead_plain z r hp
    simp only [List.forall_mem_cons, List.not_mem_nil, false_implies, implies_true, and_true]
    and_intros <;> exact hread _

/-- Settles O28: each of the listed writes is a plain write of its register. -/
theorem plainWritesStoreTheWholeWord : Obligations.PlainWritesStoreTheWholeWord := by
  intro s n z val
  refine ⟨fun u hu => ?_, fun p hp => ?_⟩
  · have hwrite := fun r => uartWrite_plain z val r hu
    simp only [List.forall_mem_cons, List.not_mem_nil, false_implies, implies_true, and_true]
    and_intros <;> exact hwrite _
  · have hwrite := fun r => spiWrite_plain z val r hp
    simp only [List.forall_mem_cons, List.not_mem_nil, false_implies, implies_true, and_true]
    and_intros <;> exact hwrite _

end Sys2Proof.Proofs
end

section
/-!
PROOFS. The UART reads that are not plain (41_uart_read.md): the constants (rules R110, R111, R122), the live words of
FIFO and WATER (rules R120, R121), said bit by bit, and the DATA read (rule R117), said by one equation for a FIFO that
holds a byte and one for an empty FIFO.
-/

namespace Sys2Proof

@[simp] theorem truncSize_zero (z : Size) : truncSize z 0#32 = 0#32 := BitVec.zero_and

/-- A condition placed at bit `i` of a word. -/
theorem getLsbD_b2w_shiftLeft (c : Bool) (i : Nat) {j : Nat} (hj : j < 32) :
    (b2w c <<< i).getLsbD j = (decide (j = i) && c) := by
  cases c with
  | false => simp [b2w]
  | true =>
    have hbit := getLsbD_bit i j
    simpa [b2w, bit, hj] using hbit

/-- The bits of a number placed at bit `i` of a word. -/
theorem getLsbD_ofNat_shiftLeft (k i : Nat) {j : Nat} (hj : j < 32) :
    (BitVec.ofNat 32 k <<< i).getLsbD j = (decide (i ≤ j) && k.testBit (j - i)) := by
  have hji : j - i < 32 := by omega
  rw [BitVec.getLsbD_shiftLeft, BitVec.getLsbD_ofNat]
  by_cases h : j < i
  · simp [h, Nat.not_le.mpr h]
  · simp [h, hj, hji, Nat.not_lt.mp h]

namespace Machine

/-! ## The live words of FIFO and WATER (R101) -/

/-- FIFO reads as stored, but for the two empty flags, which are computed (R16). -/
theorem Uart.getLsbD_fifoLive (u : Uart) {j : Nat} (hj : j < 32) :
    u.fifoLive.getLsbD j =
      if j = 22 then decide (u.rx = []) else if j = 23 then decide (u.tx = []) else (u.reg .fifo).getLsbD j := by
  have hmask : ∀ k < 32, (0xFF3FFFFF#32).getLsbD k = decide (k ≠ 22 ∧ k ≠ 23) := by decide
  unfold Uart.fifoLive
  rw [BitVec.getLsbD_or, BitVec.getLsbD_or, BitVec.getLsbD_and, hmask j hj, getLsbD_b2w_shiftLeft _ _ hj,
    getLsbD_b2w_shiftLeft _ _ hj]
  by_cases hrx : j = 22
  · simp [hrx]
  · by_cases htx : j = 23 <;> simp [hrx, htx]

/-- WATER reads as stored in its two watermarks, and has the two occupancies between them (R17). -/
theorem Uart.getLsbD_waterLive {u : Uart} (htx : u.tx.length ≤ 255) {j : Nat} (hj : j < 32) :
    u.waterLive.getLsbD j =
      if j < 8 then (u.reg .water).getLsbD j else if j < 16 then u.tx.length.testBit (j - 8)
      else if j < 24 then (u.reg .water).getLsbD j else u.rx.length.testBit (j - 24) := by
  have hmask : ∀ k < 32, (0x00FF00FF#32).getLsbD k = decide (k < 8 ∨ 16 ≤ k ∧ k < 24) := by decide
  have hfits : 16 ≤ j → u.tx.length.testBit (j - 8) = false := fun h =>
    Nat.testBit_lt_two_pow (calc
      u.tx.length < 2 ^ 8 := by omega
      _ ≤ 2 ^ (j - 8) := Nat.pow_le_pow_right (by omega) (by omega))
  unfold Uart.waterLive
  rw [BitVec.getLsbD_or, BitVec.getLsbD_or, BitVec.getLsbD_and, hmask j hj, getLsbD_ofNat_shiftLeft _ _ hj,
    getLsbD_ofNat_shiftLeft _ _ hj]
  rcases Nat.lt_or_ge j 8 with h8 | h8
  · simp [h8, show ¬8 ≤ j by omega, show ¬24 ≤ j by omega]
  rcases Nat.lt_or_ge j 16 with h16 | h16
  · simp [h8, h16, show ¬j < 8 by omega, show ¬16 ≤ j by omega, show ¬24 ≤ j by omega]
  rcases Nat.lt_or_ge j 24 with h24 | h24
  · simp [h16, h24, hfits h16, show ¬j < 8 by omega, show ¬j < 16 by omega, show ¬24 ≤ j by omega]
  · simp [h24, hfits h16, show ¬j < 8 by omega, show ¬j < 16 by omega, show ¬j < 24 by omega]

/-- The four byte lanes of a WATER read (R17, R121). -/
theorem Uart.waterLive_lanes {u : Uart} (htx : u.tx.length ≤ 255) :
    u.waterLive.extractLsb' 0 8 = (u.reg .water).extractLsb' 0 8 ∧
    u.waterLive.extractLsb' 8 8 = BitVec.ofNat 8 u.tx.length ∧
    u.waterLive.extractLsb' 16 8 = (u.reg .water).extractLsb' 16 8 ∧
    u.waterLive.extractLsb' 24 8 = BitVec.ofNat 8 u.rx.length := by
  refine ⟨?_, ?_, ?_, ?_⟩ <;> refine BitVec.eq_of_getLsbD_eq fun i hi => ?_ <;>
    rw [BitVec.getLsbD_extractLsb', Uart.getLsbD_waterLive htx (by omega)]
  · rw [BitVec.getLsbD_extractLsb', if_pos (by omega)]
  · rw [if_neg (by omega), if_pos (by omega), Nat.add_sub_cancel_left, BitVec.getLsbD_ofNat]
  · rw [BitVec.getLsbD_extractLsb', if_neg (by omega), if_neg (by omega), if_pos (by omega)]
  · rw [if_neg (by omega), if_neg (by omega), if_neg (by omega), Nat.add_sub_cancel_left, BitVec.getLsbD_ofNat]

/-! ## The DATA read (R117) -/

/-- A UART read answers the truncated result of its rule, and leaves its instance as the rule says (R45, R95). -/
theorem uartRead_next {n : Nat} {s : State} {u v : Uart} {w : Word} (z : Size) {rule : Uart → Uart × Word}
    (hu : s.uarts[n]? = some u) (hrule : rule u = (v, w)) :
    ∃ t, uartRead n z rule s = .next t ∧ OnlyUart n v s t ∧ t.reply = .ofValue (truncSize z w) := by
  refine ⟨_, onUart_next _ hu, ?_, ?_⟩
  · rw [hrule]
    exact onlyUart_set v _ hu
  · rw [hrule]

/-- The bit of a register that was set to `b` is `b`. -/
theorem Uart.getLsbD_setRegBit_self (u : Uart) (r : UartReg) {i : Nat} (hi : i < 32) (b : Bool) :
    ((u.setRegBit r i b).reg r).getLsbD i = b := by
  rw [Uart.reg_setRegBit, if_pos rfl, getLsbD_setBit, if_pos ⟨rfl, hi⟩]

/-- Setting one bit of a register keeps its other bits. -/
theorem Uart.sameBits_setRegBit (u : Uart) (r : UartReg) (i : Nat) (b : Bool) :
    SameBits [i] (u.reg r) ((u.setRegBit r i b).reg r) := by
  intro j _ hj
  rw [Uart.reg_setRegBit, if_pos rfl, getLsbD_setBit, if_neg fun h => hj (List.mem_singleton.mpr h.1)]

/-- With a byte held, a DATA read moves the oldest one into DATA. -/
theorem Uart.readData_cons {u : Uart} {b : Byte} {rest : List Byte} (h : u.rx = b :: rest) :
    u.readData = ((({ u with rx := rest } : Uart).setReg .data (byteToWord b)).setRegBit .stat 21
      (decide (u.rxWater < rest.length)), byteToWord b) := by
  unfold Uart.readData
  rw [h]
  rfl

/-- With nothing held, a DATA read clears DATA and RDRF and sets RXUF. -/
theorem Uart.readData_nil {u : Uart} (h : u.rx = []) :
    u.readData = (((u.setReg .data 0#32).setRegBit .fifo 16 true).setRegBit .stat 21 false, 0#32) := by
  obtain ⟨regs, tx, rx, out⟩ := u
  obtain rfl : rx = [] := h
  rfl

end Machine

end Sys2Proof

namespace Sys2Proof.Proofs

open Sys2Proof.Machine

/-- Settles O21: none of these reads looks at its instance. -/
theorem identificationReadsReturnConstants : Obligations.IdentificationReadsReturnConstants := by
  intro s n z
  refine ⟨fun u hu => ⟨uartRead_pure z hu rfl, uartRead_pure z hu rfl, ?_⟩,
    fun p hp => ⟨spiRead_pure z hp rfl, spiRead_pure z hp rfl⟩⟩
  have hread := uartRead_pure z (rule := fun u => (u, 0#32)) hu rfl
  rwa [truncSize_zero] at hread

/-- Settles O22: the live words, bit by bit and lane by lane. -/
theorem uartStatusReadsAreLive : Obligations.UartStatusReadsAreLive := by
  intro s n z u hu
  exact ⟨⟨u.fifoLive, uartRead_pure z hu rfl, fun _ hj => u.getLsbD_fifoLive hj⟩,
    fun htx => ⟨u.waterLive, uartRead_pure z hu rfl, Uart.waterLive_lanes htx⟩⟩

/-- Settles O23: the pop and the store of DATA come first, and RDRF is one bit of STAT. -/
theorem uartDataReadPopsTheOldestByte : Obligations.UartDataReadPopsTheOldestByte := by
  intro s n z u b rest hu hrx
  obtain ⟨t, ht, honly, hreply⟩ := uartRead_next z hu (Uart.readData_cons hrx)
  refine ⟨t, _, ht, honly, hreply, rfl, rfl, rfl, rfl, Uart.getLsbD_setRegBit_self _ .stat (by decide) _,
    Uart.sameBits_setRegBit _ .stat 21 _, fun r hdata hstat => ?_⟩
  rw [Uart.reg_setRegBit, if_neg hstat, Uart.reg_setReg, if_neg hdata, Uart.reg_mk, Uart.regs_get]

/-- Settles O24: RXUF is one bit of FIFO and RDRF one bit of STAT. -/
theorem uartDataReadUnderflowSetsRxuf : Obligations.UartDataReadUnderflowSetsRxuf := by
  intro s n z u hu hrx
  obtain ⟨t, ht, honly, hreply⟩ := uartRead_next z hu (Uart.readData_nil hrx)
  rw [truncSize_zero] at hreply
  refine ⟨t, _, ht, honly, hreply, hrx, rfl, rfl, rfl, Uart.getLsbD_setRegBit_self _ .fifo (by decide) _,
    Uart.sameBits_setRegBit _ .fifo 16 _, Uart.getLsbD_setRegBit_self _ .stat (by decide) _,
    Uart.sameBits_setRegBit _ .stat 21 _, fun r hdata hstat hfifo => ?_⟩
  rw [Uart.reg_setRegBit, if_neg hstat, Uart.reg_setRegBit, if_neg hfifo, Uart.reg_setReg, if_neg hdata]

end Sys2Proof.Proofs
end

section
/-!
PROOFS. The UART writes that are not plain (42_uart_write.md rules R142, R145, R146, R147, R150), each rule said by one
equation per branch or bit by bit, and what an instance of either kind reads right after a reset (rules R161, R230,
R260). CTRL and DATA writes both end by storing TDRE and TC: `Uart.setTransmitFlags`.
-/

namespace Sys2Proof

/-! ## Bits of masks and narrow values -/

/-- A mask is known at every place once it is known at the 32 bits of a word. -/
theorem getLsbD_eq_decide (m : Word) (P : Nat → Prop) [DecidablePred P]
    (hlow : ∀ j < 32, m.getLsbD j = decide (P j)) (hhigh : ∀ j, P j → j < 32) (j : Nat) :
    m.getLsbD j = decide (P j) := by
  by_cases hj : j < 32
  · exact hlow j hj
  · rw [BitVec.getLsbD_of_ge m j (Nat.not_lt.mp hj), decide_eq_false (mt (hhigh j) hj)]

/-- PF, FE, NF and OR are bits 16 to 19 of STAT (R12). -/
theorem getLsbD_statErrorMask (j : Nat) : (0x000F0000#32).getLsbD j = decide (16 ≤ j ∧ j ≤ 19) :=
  getLsbD_eq_decide _ (fun i => 16 ≤ i ∧ i ≤ 19) (by decide) (fun _ h => by omega) j

/-- RXUF and TXOF are bits 16 and 17 of FIFO (R16). -/
theorem getLsbD_fifoStickyMask (j : Nat) : (0x00030000#32).getLsbD j = decide (j = 16 ∨ j = 17) :=
  getLsbD_eq_decide _ (fun i => i = 16 ∨ i = 17) (by decide) (fun _ h => by omega) j

/-- A write of any size carries the low byte of its value (R45). -/
theorem getLsbD_zextSize_low (z : Size) (w : Word) {j : Nat} (hj : j < 8) :
    (zextSize z w).getLsbD j = w.getLsbD j := by
  have hbytes : j < 8 * z.bytes := by cases z <;> simp only [Size.bytes] <;> omega
  rw [getLsbD_zextSize, decide_eq_true hbytes, Bool.and_true]

/-- The byte of a zero-extended value is the low byte of the value (R45, R104). -/
theorem lowByte_zextSize (z : Size) (w : Word) : lowByte (zextSize z w) = w.setWidth 8 := by
  unfold lowByte
  refine BitVec.eq_of_getLsbD_eq fun i hi => ?_
  rw [BitVec.getLsbD_extractLsb', Nat.zero_add, getLsbD_zextSize_low z w hi, BitVec.getLsbD_setWidth]

/-- Storing the bit a word already has changes nothing. -/
theorem setBit_getLsbD (w : Word) (i : Nat) : setBit w i (w.getLsbD i) = w := by
  refine BitVec.eq_of_getLsbD_eq fun j _ => ?_
  rw [getLsbD_setBit]
  split
  · next h => rw [h.1]
  · rfl

namespace Machine

/-! ## A write to a UART (R95) -/

/-- A UART write leaves its instance as the rule says for the zero-extended value, and returns nothing (R45, R95). -/
theorem uartWrite_next {n : Nat} {s : State} {u : Uart} (z : Size) (val : Word) (rule : Word → Uart → Uart)
    (hu : s.uarts[n]? = some u) :
    ∃ t, uartWrite n z val rule s = .next t ∧ OnlyUart n (rule (zextSize z val) u) s t ∧ t.reply = .done :=
  ⟨_, onUart_next _ hu, onlyUart_set _ _ hu, rfl⟩

/-! ## The GLOBAL, STAT and FIFO writes (R142, R145, R150) -/

theorem Uart.writeGlobal_of_rst {c : Config} {w : Word} (u : Uart) (h : w.getLsbD 0 = true) :
    u.writeGlobal c w = u.resetAll c := if_pos h

theorem Uart.writeGlobal_of_no_rst {c : Config} {w : Word} (u : Uart) (h : w.getLsbD 0 = false) :
    u.writeGlobal c w = u.setReg .global w := if_neg (ne_true_of_eq_false h)

/-- A STAT write clears the error flags written as 1 (R145). -/
theorem Uart.getLsbD_writeStat (w : Word) (u : Uart) (j : Nat) :
    ((u.writeStat w).reg .stat).getLsbD j =
      ((u.reg .stat).getLsbD j && !(decide (16 ≤ j ∧ j ≤ 19) && w.getLsbD j)) := by
  unfold Uart.writeStat
  rw [Uart.reg_setReg, if_pos rfl, getLsbD_clearOnes, getLsbD_statErrorMask, Bool.and_comm (w.getLsbD j)]

/-- A FIFO write clears the sticky flags written as 1 and stores every other bit (R150). -/
theorem Uart.getLsbD_writeFifo (w : Word) (u : Uart) (j : Nat) :
    ((u.writeFifo w).reg .fifo).getLsbD j =
      if j = 16 ∨ j = 17 then (u.reg .fifo).getLsbD j && !w.getLsbD j else w.getLsbD j := by
  unfold Uart.writeFifo
  rw [Uart.reg_setReg, if_pos rfl, BitVec.getLsbD_or, BitVec.getLsbD_and, BitVec.getLsbD_and, BitVec.getLsbD_and,
    BitVec.getLsbD_not, BitVec.getLsbD_not, getLsbD_fifoStickyMask]
  by_cases hsticky : j = 16 ∨ j = 17
  · have hj : j < 32 := by omega
    simp [hsticky, hj]
  · by_cases hj : j < 32
    · simp [hsticky, hj]
    · simp [hsticky, hj, BitVec.getLsbD_of_ge w j (Nat.not_lt.mp hj)]

/-! ## The transmit flags (R146, R147) -/

/-- Stores TDRE (STAT 23) and TC (STAT 22), as the CTRL and the DATA write do last. -/
def Uart.setTransmitFlags (u : Uart) (tdre tc : Bool) : Uart := (u.setRegBit .stat 23 tdre).setRegBit .stat 22 tc

/-- Storing the transmit flags changes no register but STAT. -/
theorem Uart.reg_setTransmitFlags (u : Uart) (tdre tc : Bool) {r : UartReg} (hr : r ≠ .stat) :
    (u.setTransmitFlags tdre tc).reg r = u.reg r := by
  unfold Uart.setTransmitFlags
  rw [Uart.reg_setRegBit, if_neg hr, Uart.reg_setRegBit, if_neg hr]

/-- Storing the transmit flags changes no bit of STAT but the two. -/
theorem Uart.sameBits_setTransmitFlags (u : Uart) (tdre tc : Bool) :
    SameBits [22, 23] (u.reg .stat) ((u.setTransmitFlags tdre tc).reg .stat) := by
  intro j hj hne
  simp only [List.mem_cons, List.not_mem_nil, or_false, not_or] at hne
  obtain ⟨h22, h23⟩ := hne
  calc ((u.setTransmitFlags tdre tc).reg .stat).getLsbD j
      = ((u.setRegBit .stat 23 tdre).reg .stat).getLsbD j :=
        Uart.sameBits_setRegBit _ .stat 22 tc j hj (mt List.mem_singleton.mp h22)
    _ = (u.reg .stat).getLsbD j := Uart.sameBits_setRegBit u .stat 23 tdre j hj (mt List.mem_singleton.mp h23)

/-- TDRE is what was stored: TC is another bit. -/
theorem Uart.tdre_setTransmitFlags (u : Uart) (tdre tc : Bool) :
    ((u.setTransmitFlags tdre tc).reg .stat).getLsbD 23 = tdre :=
  (Uart.sameBits_setRegBit _ .stat 22 tc 23 (by decide) (by decide)).trans
    (Uart.getLsbD_setRegBit_self u .stat (by decide) tdre)

/-- TC is what was stored. -/
theorem Uart.tc_setTransmitFlags (u : Uart) (tdre tc : Bool) :
    ((u.setTransmitFlags tdre tc).reg .stat).getLsbD 22 = tc :=
  Uart.getLsbD_setRegBit_self _ .stat (by decide) tc

/-- Storing in a register the bit it already has changes nothing. -/
theorem Uart.setRegBit_getLsbD (u : Uart) (r : UartReg) (i : Nat) : u.setRegBit r i ((u.reg r).getLsbD i) = u := by
  refine Uart.ext_reg (fun q => ?_) rfl rfl rfl
  rw [Uart.reg_setRegBit, setBit_getLsbD]
  split
  · next h => rw [h]
  · rfl

/-- Storing the TDRE that STAT already has leaves the store of TC. -/
theorem Uart.setTransmitFlags_same_tdre (u : Uart) (tc : Bool) :
    u.setTransmitFlags ((u.reg .stat).getLsbD 23) tc = u.setRegBit .stat 22 tc := by
  unfold Uart.setTransmitFlags
  rw [Uart.setRegBit_getLsbD]

/-- Storing both transmit flags as STAT already has them changes nothing. -/
theorem Uart.setTransmitFlags_same (u : Uart) :
    u.setTransmitFlags ((u.reg .stat).getLsbD 23) ((u.reg .stat).getLsbD 22) = u :=
  (u.setTransmitFlags_same_tdre _).trans (u.setRegBit_getLsbD .stat 22)

/-- A stored word and the transmit flags change nothing else of an instance. -/
theorem Uart.sameBut_setReg_setTransmitFlags (u : Uart) (r : UartReg) (w : Word) (tdre tc : Bool) :
    Uart.SameBut [r, .stat] u ((u.setReg r w).setTransmitFlags tdre tc) := by
  refine ⟨rfl, rfl, rfl, fun q hq => ?_⟩
  simp only [List.mem_cons, List.not_mem_nil, or_false, not_or] at hq
  obtain ⟨hr, hstat⟩ := hq
  rw [Uart.reg_setTransmitFlags _ _ _ hstat, Uart.reg_setReg, if_neg hr]

/-! ## The CTRL write (R146) -/

/-- TDRE after a CTRL write: set by a 0 to 1 edge of TE. -/
def Uart.tdreAfterCtrl (w : Word) (u : Uart) : Bool :=
  if (u.reg .ctrl).getLsbD 19 = false ∧ w.getLsbD 19 = true then true else (u.reg .stat).getLsbD 23

/-- TC after a CTRL write: cleared by a 0 to 1 edge of TE, set by a 1 to 0 edge with the TX FIFO empty. -/
def Uart.tcAfterCtrl (w : Word) (u : Uart) : Bool :=
  if (u.reg .ctrl).getLsbD 19 = false ∧ w.getLsbD 19 = true then false
  else if (u.reg .ctrl).getLsbD 19 = true ∧ w.getLsbD 19 = false ∧ u.tx = [] then true
  else (u.reg .stat).getLsbD 22

/-- A CTRL write stores the word and the two transmit flags. -/
theorem Uart.writeCtrl_eq (w : Word) (u : Uart) :
    u.writeCtrl w = (u.setReg .ctrl w).setTransmitFlags (u.tdreAfterCtrl w) (u.tcAfterCtrl w) := by
  have hstat : (u.setReg .ctrl w).reg .stat = u.reg .stat :=
    (Uart.reg_setReg u .ctrl .stat w).trans (if_neg (by decide))
  have hsetTc := (u.setReg .ctrl w).setTransmitFlags_same_tdre true
  have hkeep := (u.setReg .ctrl w).setTransmitFlags_same
  rw [hstat] at hsetTc hkeep
  unfold Uart.writeCtrl Uart.tdreAfterCtrl Uart.tcAfterCtrl Uart.te
  cases (u.reg .ctrl).getLsbD 19 <;> cases w.getLsbD 19
  case false.true => rfl
  case false.false => simpa using hkeep.symm
  case true.true => simpa using hkeep.symm
  case true.false =>
    by_cases hempty : u.tx = []
    · simpa [hempty] using hsetTc.symm
    · simpa [hempty] using hkeep.symm

/-! ## The DATA write (R147) -/

/-- With TE clear a DATA write does nothing. -/
theorem Uart.writeData_of_te_clear {c : Config} {w : Word} {u : Uart} (hte : u.te = false) :
    u.writeData c w = u := if_neg (ne_true_of_eq_false hte)

/-- With room, a DATA write sends the oldest byte and stores the flags of what is left. -/
theorem Uart.writeData_of_room {c : Config} {w : Word} {u : Uart} {b : Byte} {rest : List Byte}
    (hte : u.te = true) (hroom : u.tx.length < c.uart.txCap) (hqueue : u.tx ++ [lowByte w] = b :: rest) :
    u.writeData c w = (({ u with tx := rest } : Uart).send b).setTransmitFlags
      (decide (rest.length ≤ u.txWater)) (decide (rest = [])) := by
  unfold Uart.writeData
  rw [if_pos hte, fifoPush_room _ hroom, hqueue, ← decide_eq_decide.mpr List.length_eq_zero_iff]
  rfl

/-- With the TX FIFO full, a DATA write sets TXOF and stores the flags of the unchanged FIFO. -/
theorem Uart.writeData_of_full {c : Config} {w : Word} {u : Uart} (hte : u.te = true)
    (hfull : c.uart.txCap ≤ u.tx.length) :
    u.writeData c w = (u.setRegBit .fifo 17 true).setTransmitFlags
      (decide (u.tx.length ≤ u.txWater)) (decide (u.tx = [])) := by
  unfold Uart.writeData
  rw [if_pos hte, fifoPush_full _ hfull, ← decide_eq_decide.mpr List.length_eq_zero_iff]
  rfl

end Machine

/-! ## What an admissible configuration says of the reset words (R33, R34) -/

/-- No interrupt enable of CTRL that the reset STAT meets is set at reset. -/
theorem Config.uart_reset_ctrl {c : Config} (hc : c.wf = true) : c.uart.reset.ctrl &&& 0x00CC0000#32 = 0#32 := by
  obtain ⟨hu, -, -⟩ := Config.wf_iff.mp hc
  simp only [UartConfig.wf, Bool.and_eq_true, beq_iff_eq] at hu
  obtain ⟨⟨⟨-, hctrl⟩, -⟩, -⟩ := hu
  exact hctrl

/-- The reset words of an SPI: CR has MEN and its action bits clear, SR is 0, and TDF is not enabled in IER. -/
theorem Config.spi_reset_words {c : Config} (hc : c.wf = true) :
    c.spi.reset.cr &&& 0x00000303#32 = 0#32 ∧ c.spi.reset.sr = 0#32 ∧ c.spi.reset.ier &&& 0x00000001#32 = 0#32 := by
  obtain ⟨-, hp, -⟩ := Config.wf_iff.mp hc
  simp only [SpiConfig.wf, Bool.and_eq_true, beq_iff_eq] at hp
  obtain ⟨⟨⟨⟨⟨-, hcr⟩, hsr⟩, hier⟩, -⟩, -⟩ := hp
  exact ⟨hcr, hsr, hier⟩

/-- A register file as R33 decides it holds 0 but for STAT. -/
theorem UartRegs.get_decided {r : UartReg} (hr : r ≠ .stat) : UartRegs.decided.get r = 0#32 := by
  cases r with
  | stat => exact absurd rfl hr
  | _ => rfl

/-- A register file as R34 decides it holds 0. -/
theorem SpiRegs.get_decided (r : SpiReg) : SpiRegs.decided.get r = 0#32 := by cases r <;> rfl

namespace Machine

/-! ## Right after a reset (R161, R230, R260) -/

/-- A reset UART asserts no interrupt: STAT has TDRE and TC only, and neither is enabled. -/
theorem Uart.irq_resetAll {c : Config} (hc : c.wf = true) (u : Uart) : (u.resetAll c).irq = false := by
  have hstat : (u.resetAll c).reg .stat = 0x00C00000#32 := Config.uart_reset_stat hc
  have hctrl : (u.resetAll c).reg .ctrl &&& 0x00C00000#32 = 0#32 :=
    and_eq_zero_of_submask (Config.uart_reset_ctrl hc) rfl
  refine decide_eq_false (not_not_intro ?_)
  rw [hstat, BitVec.and_comm 0x00C00000#32, hctrl, BitVec.zero_and]

/-- With both FIFOs empty and no sticky flag SR reads TDF alone (R102). -/
theorem Spi.srLive_of_empty {p : Spi} (htx : p.tx = []) (hrx : p.rx = []) (hsr : p.reg .sr = 0#32) :
    p.srLive = 1#32 := by
  unfold Spi.srLive Spi.tdf Spi.rdf
  rw [htx, hrx, hsr, List.length_nil, decide_eq_true (Nat.zero_le _), decide_eq_false (Nat.not_lt_zero _)]
  rfl

/-- With both FIFOs empty FSR reads 0 (R102). -/
theorem Spi.fsr_of_empty {p : Spi} (htx : p.tx = []) (hrx : p.rx = []) : p.fsr = 0#32 := by
  unfold Spi.fsr
  rw [htx, hrx]
  rfl

/-- With the RX FIFO empty RSR reads RXEMPTY (R102). -/
theorem Spi.rsr_of_empty {p : Spi} (hrx : p.rx = []) : p.rsr = 2#32 := by
  unfold Spi.rsr
  rw [hrx]
  rfl

/-- What an SPI shows whose registers have their reset words and whose FIFOs are empty. -/
theorem Spi.quiet_of_reset {c : Config} (hc : c.wf = true) {p : Spi} (hregs : p.regs = c.spi.reset) (htx : p.tx = [])
    (hrx : p.rx = []) :
    p.srLive = 1#32 ∧ p.fsr = 0#32 ∧ p.rsr = 2#32 ∧ p.reg .cr &&& 0x00000303#32 = 0#32 ∧ p.irq = false := by
  obtain ⟨hcr, hsr, hier⟩ := Config.spi_reset_words hc
  rw [← hregs] at hcr hsr hier
  have hlive : p.srLive = 1#32 := Spi.srLive_of_empty htx hrx hsr
  have hquiet : p.reg .ier &&& 1#32 = 0#32 := hier
  refine ⟨hlive, Spi.fsr_of_empty htx hrx, Spi.rsr_of_empty hrx, hcr, decide_eq_false (not_not_intro ?_)⟩
  rw [hlive, BitVec.and_comm 1#32, hquiet, BitVec.zero_and]

end Machine

end Sys2Proof

namespace Sys2Proof.Proofs

open Sys2Proof.Machine

/-- Settles O29: bit 0 of the value reaches the rule at every size, and decides between reset and store. -/
theorem uartGlobalWriteResetsOrStores : Obligations.UartGlobalWriteResetsOrStores := by
  intro s n z val u hu
  have hbit : (zextSize z val).getLsbD 0 = val.getLsbD 0 := getLsbD_zextSize_low z val (by decide)
  obtain ⟨t, ht, honly, hreply⟩ := uartWrite_next z val (Uart.writeGlobal s.cfg) hu
  refine ⟨t, _, ht, honly, hreply, fun hrst => ?_, fun hrst => ?_⟩
  · rw [Uart.writeGlobal_of_rst u (hbit.trans hrst)]
    exact ⟨rfl, rfl, rfl, fun r => Uart.reg_resetAll s.cfg u r⟩
  · rw [Uart.writeGlobal_of_no_rst u (hbit.trans hrst)]
    exact ⟨(Uart.reg_setReg u .global .global _).trans (if_pos rfl), u.sameBut_setReg .global _⟩

/-- Settles O30: the STAT write is a store to STAT, known bit by bit. -/
theorem uartStatWriteClearsErrorFlags : Obligations.UartStatWriteClearsErrorFlags := by
  intro s n z val u hu
  obtain ⟨t, ht, honly, hreply⟩ := uartWrite_next z val Uart.writeStat hu
  exact ⟨t, _, ht, honly, hreply, u.sameBut_setReg .stat _, u.getLsbD_writeStat (zextSize z val)⟩

/-- Settles O31: the CTRL write stores the word and the two transmit flags, whatever the edge of TE. -/
theorem uartCtrlWriteActsOnTransmitEnableEdges : Obligations.UartCtrlWriteActsOnTransmitEnableEdges := by
  intro s n z val u hu
  obtain ⟨t, ht, honly, hreply⟩ := uartWrite_next z val Uart.writeCtrl hu
  rw [Uart.writeCtrl_eq] at honly
  refine ⟨t, _, ht, honly, hreply, u.sameBut_setReg_setTransmitFlags .ctrl _ _ _, ?_,
    Uart.sameBits_setTransmitFlags _ _ _, Uart.tdre_setTransmitFlags _ _ _, Uart.tc_setTransmitFlags _ _ _⟩
  rw [Uart.reg_setTransmitFlags _ _ _ (by decide), Uart.reg_setReg, if_pos rfl]

/-- Settles O32: with room the FIFO, the stream and the two transmit flags change. -/
theorem uartDataWriteSendsOneByte : Obligations.UartDataWriteSendsOneByte := by
  intro s n z val u b rest hu hte hroom hqueue
  obtain ⟨t, ht, honly, hreply⟩ := uartWrite_next z val (Uart.writeData s.cfg) hu
  rw [← lowByte_zextSize z val] at hqueue
  rw [Uart.writeData_of_room hte hroom hqueue] at honly
  exact ⟨t, _, ht, honly, hreply, rfl, rfl, rfl, fun r hr => Uart.reg_setTransmitFlags _ _ _ hr,
    Uart.sameBits_setTransmitFlags _ _ _, Uart.tdre_setTransmitFlags _ _ _, Uart.tc_setTransmitFlags _ _ _⟩

/-- Settles O33: with TE clear the rule leaves the instance alone, with the FIFO full it stores three flags. -/
theorem uartDataWriteOverflowsOrIsIgnored : Obligations.UartDataWriteOverflowsOrIsIgnored := by
  intro s n z val u hu
  refine ⟨fun hte => onUart_pure hu (Uart.writeData_of_te_clear hte), fun hte hfull => ?_⟩
  obtain ⟨t, ht, honly, hreply⟩ := uartWrite_next z val (Uart.writeData s.cfg) hu
  rw [Uart.writeData_of_full hte hfull] at honly
  refine ⟨t, _, ht, honly, hreply, u.sameBut_setReg_setTransmitFlags .fifo _ _ _, ?_, ?_,
    Uart.sameBits_setTransmitFlags _ _ _, Uart.tdre_setTransmitFlags _ _ _, Uart.tc_setTransmitFlags _ _ _⟩ <;>
    rw [Uart.reg_setTransmitFlags _ _ _ (by decide)]
  · exact Uart.getLsbD_setRegBit_self u .fifo (by decide) true
  · exact Uart.sameBits_setRegBit u .fifo 17 true

/-- Settles O34: the FIFO write is a store to FIFO, known bit by bit. -/
theorem uartFifoWriteClearsStickyBits : Obligations.UartFifoWriteClearsStickyBits := by
  intro s n z val u hu
  obtain ⟨t, ht, honly, hreply⟩ := uartWrite_next z val Uart.writeFifo hu
  exact ⟨t, _, ht, honly, hreply, u.sameBut_setReg .fifo _, u.getLsbD_writeFifo (zextSize z val)⟩

/-- Settles O38: both SPI resets leave the reset words and empty FIFOs; `State.reset` holds one instance of each
kind, as R33 and R34 decide it. -/
theorem resetStatusAndInterruptsAreQuiet : Obligations.ResetStatusAndInterruptsAreQuiet := by
  refine ⟨fun c u p hc => ?_, fun u hu => ?_, fun p hp => ?_, rfl, rfl⟩
  · obtain ⟨hsr, hfsr, hrsr, hcr, hirq⟩ := Spi.quiet_of_reset hc (p.softReset_regs c) rfl rfl
    exact ⟨Config.uart_reset_stat hc, Uart.irq_resetAll hc u, hsr, hfsr, hrsr, hcr, hirq,
      Spi.quiet_of_reset hc (p.powerOn_regs c) rfl rfl⟩
  · obtain rfl : u = Uart.afterReset Config.ref := List.mem_singleton.mp hu
    exact ⟨rfl, fun _ hr => UartRegs.get_decided hr, rfl, rfl, rfl, rfl⟩
  · obtain rfl : p = Spi.afterReset Config.ref := List.mem_singleton.mp hp
    exact ⟨SpiRegs.get_decided, Spi.srLive_of_empty rfl rfl rfl, rfl, rfl, rfl, rfl⟩

end Sys2Proof.Proofs
end

section
/-!
PROOFS. The bytes of a UART (43_uart_events.md rules R170 to R174): the receive callback, said by one equation; which
rules move a byte (`UartRule.out_cases`, `UartRule.rx_cases`); and what a sequence of operations on one instance leaves,
by one induction on the operations performed so far (`performAll_uart`).
-/

namespace Sys2Proof.Machine

/-- Two changes of a word one after the other change the bits that either of them may change. -/
theorem SameBits.append {is js : List Nat} {v w x : Word} (hvw : SameBits is v w) (hwx : SameBits js w x) :
    SameBits (is ++ js) v x := by
  intro i hi hne
  rw [List.mem_append, not_or] at hne
  exact (hwx i hi hne.2).trans (hvw i hi hne.1)

/-! ## The receive callback (R170) -/

/-- The RX FIFO after a receive callback: the byte is appended when the receiver is enabled and there is room. -/
def Uart.rxAfterReceive (c : Config) (b : Byte) (u : Uart) : List Byte :=
  if u.re = true ∧ u.rx.length < c.uart.rxCap then u.rx ++ [b] else u.rx

/-- OR after a receive callback: set when the receiver is enabled and the FIFO is full. -/
def Uart.orAfterReceive (c : Config) (u : Uart) : Bool :=
  if u.re = true ∧ c.uart.rxCap ≤ u.rx.length then true else (u.reg .stat).getLsbD 19

/-- A receive callback stores the RX FIFO and the flags OR and RDRF. -/
theorem Uart.onReceive_eq (c : Config) (b : Byte) (u : Uart) :
    u.onReceive c b = (({ u with rx := u.rxAfterReceive c b } : Uart).setRegBit .stat 19
      (u.orAfterReceive c)).setRegBit .stat 21 (decide (u.rxWater < (u.rxAfterReceive c b).length)) := by
  have hkeep : ∀ rx, ({ u with rx := rx } : Uart).setRegBit .stat 19 ((u.reg .stat).getLsbD 19) = { u with rx := rx } :=
    fun rx => ({ u with rx := rx } : Uart).setRegBit_getLsbD .stat 19
  unfold Uart.onReceive Uart.rxAfterReceive Uart.orAfterReceive
  cases hre : u.re with
  | false =>
    simp only [Bool.false_eq_true, if_false, false_and, hkeep]
    rfl
  | true =>
    rcases fifoPush_cases c.uart.rxCap u.rx b with ⟨hroom, hpush⟩ | ⟨hfull, hpush⟩
    · simp only [hpush, if_true, true_and, if_pos hroom, if_neg (Nat.not_le.mpr hroom), hkeep]
      rfl
    · simp only [hpush, if_true, Bool.false_eq_true, if_false, true_and, if_neg (Nat.not_lt.mpr hfull), if_pos hfull]
      rfl

@[simp] theorem Uart.onReceive_rx (c : Config) (b : Byte) (u : Uart) :
    (u.onReceive c b).rx = u.rxAfterReceive c b := by rw [Uart.onReceive_eq]; rfl

@[simp] theorem Uart.onReceive_tx (c : Config) (b : Byte) (u : Uart) : (u.onReceive c b).tx = u.tx := by
  rw [Uart.onReceive_eq]; rfl

@[simp] theorem Uart.onReceive_out (c : Config) (b : Byte) (u : Uart) : (u.onReceive c b).out = u.out := by
  rw [Uart.onReceive_eq]; rfl

/-- A receive callback changes no register but STAT. -/
theorem Uart.reg_onReceive (c : Config) (b : Byte) (u : Uart) {r : UartReg} (hr : r ≠ .stat) :
    (u.onReceive c b).reg r = u.reg r := by
  rw [Uart.onReceive_eq, Uart.reg_setRegBit, if_neg hr, Uart.reg_setRegBit, if_neg hr, Uart.reg_mk, Uart.regs_get]

/-- A receive callback changes no bit of STAT but OR and RDRF. -/
theorem Uart.sameBits_onReceive (c : Config) (b : Byte) (u : Uart) :
    SameBits [19, 21] (u.reg .stat) ((u.onReceive c b).reg .stat) := by
  rw [Uart.onReceive_eq]
  exact (Uart.sameBits_setRegBit _ .stat 19 _).append (Uart.sameBits_setRegBit _ .stat 21 _)

/-- OR is what was stored: RDRF is another bit. -/
theorem Uart.or_onReceive (c : Config) (b : Byte) (u : Uart) :
    ((u.onReceive c b).reg .stat).getLsbD 19 = u.orAfterReceive c := by
  rw [Uart.onReceive_eq]
  exact (Uart.sameBits_setRegBit _ .stat 21 _ 19 (by decide) (by decide)).trans
    (Uart.getLsbD_setRegBit_self _ .stat (by decide) _)

/-- RDRF is re-derived from the new occupancy. -/
theorem Uart.rdrf_onReceive (c : Config) (b : Byte) (u : Uart) :
    ((u.onReceive c b).reg .stat).getLsbD 21 = decide (u.rxWater < (u.rxAfterReceive c b).length) := by
  rw [Uart.onReceive_eq]
  exact Uart.getLsbD_setRegBit_self _ .stat (by decide) _

/-- The query answers whether the receiver is enabled and the RX FIFO has room (R171). -/
theorem Uart.canAccept_iff {c : Config} {u : Uart} :
    u.canAccept c = true ↔ (u.reg .ctrl).getLsbD 18 = true ∧ u.rx.length < c.uart.rxCap := by
  simp [Uart.canAccept, Uart.re]

/-! ## The bytes a rule moves (R172 to R174) -/

/-- Everything a DATA write can do (R147). -/
theorem Uart.writeData_cases (c : Config) (w : Word) (u : Uart) :
    u.writeData c w = u ∨
    (u.te = true ∧ u.writeData c w = (u.setRegBit .fifo 17 true).setTransmitFlags
      (decide (u.tx.length ≤ u.txWater)) (decide (u.tx = []))) ∨
    (u.te = true ∧ ∃ b rest, u.tx ++ [lowByte w] = b :: rest ∧
      u.writeData c w = (({ u with tx := rest } : Uart).send b).setTransmitFlags
        (decide (rest.length ≤ u.txWater)) (decide (rest = []))) := by
  cases hte : u.te with
  | false => exact .inl (Uart.writeData_of_te_clear hte)
  | true =>
    rcases Nat.lt_or_ge u.tx.length c.uart.txCap with hroom | hfull
    · obtain ⟨b, rest, hqueue⟩ := List.exists_cons_of_ne_nil (show u.tx ++ [lowByte w] ≠ [] by simp)
      exact .inr (.inr ⟨rfl, b, rest, hqueue, Uart.writeData_of_room hte hroom hqueue⟩)
    · exact .inr (.inl ⟨rfl, Uart.writeData_of_full hte hfull⟩)

/-- A DATA write leaves the RX FIFO alone. -/
theorem Uart.writeData_rx (c : Config) (w : Word) (u : Uart) : (u.writeData c w).rx = u.rx := by
  rcases u.writeData_cases c w with h | ⟨-, h⟩ | ⟨-, b, rest, -, h⟩ <;> rw [h] <;> rfl

/-- A DATA write sends nothing, or with TE set the oldest byte queued, which on an empty queue is its own. -/
theorem Uart.writeData_out (c : Config) (w : Word) (u : Uart) :
    (u.writeData c w).out = u.out ∨
      (u.te = true ∧ ∃ b, (u.writeData c w).out = u.out ++ [b] ∧ (u.tx = [] → b = lowByte w)) := by
  rcases u.writeData_cases c w with h | ⟨-, h⟩ | ⟨hte, b, rest, hqueue, h⟩ <;> rw [h]
  · exact .inl rfl
  · exact .inl rfl
  · refine .inr ⟨hte, b, rfl, fun hempty => ?_⟩
    rw [hempty] at hqueue
    exact (List.cons.inj hqueue).1.symm

/-- A DATA read leaves the output stream alone. -/
theorem Uart.readData_out (u : Uart) : u.readData.1.out = u.out := by
  cases h : u.rx with
  | nil => rw [Uart.readData_nil h]; rfl
  | cons b rest => rw [Uart.readData_cons h]; rfl

/-- A DATA read leaves an empty RX FIFO alone, or removes its oldest byte. -/
theorem Uart.readData_rx (u : Uart) : u.readData.1.rx = u.rx ∨ ∃ b, u.rx = b :: u.readData.1.rx := by
  cases h : u.rx with
  | nil => rw [Uart.readData_nil h]; exact .inl h
  | cons b rest => rw [Uart.readData_cons h]; exact .inr ⟨b, rfl⟩

/-- The GLOBAL write leaves the output stream alone (R263). -/
theorem Uart.writeGlobal_out (c : Config) (w : Word) (u : Uart) : (u.writeGlobal c w).out = u.out := by
  unfold Uart.writeGlobal
  split <;> rfl

/-- The GLOBAL write leaves the RX FIFO alone, or with RST empties it (R142). -/
theorem Uart.writeGlobal_rx (c : Config) (w : Word) (u : Uart) :
    (u.writeGlobal c w).rx = u.rx ∨ ((u.writeGlobal c w).rx = [] ∧ w.getLsbD 0 = true) := by
  unfold Uart.writeGlobal
  split
  · next hrst => exact .inr ⟨rfl, hrst⟩
  · exact .inl rfl

/-- The CTRL write leaves the output stream alone. -/
theorem Uart.writeCtrl_out (w : Word) (u : Uart) : (u.writeCtrl w).out = u.out := by rw [Uart.writeCtrl_eq]; rfl

/-- The CTRL write leaves the RX FIFO alone. -/
theorem Uart.writeCtrl_rx (w : Word) (u : Uart) : (u.writeCtrl w).rx = u.rx := by rw [Uart.writeCtrl_eq]; rfl

/-- The one rule that sends a byte is the DATA write (R172). -/
theorem UartRule.out_cases {c : Config} {i : Instr} {rule : Uart → Uart × Reply} (h : UartRule c i rule) (u : Uart) :
    (rule u).1.out = u.out ∨
      (u.te = true ∧ ∃ z val b, i = .uartWrData (i.descriptor c).inst z val ∧ (rule u).1.out = u.out ++ [b] ∧
        (u.tx = [] → b = val.setWidth 8)) := by
  cases h with
  | answer | store | storeWater | writeStat | writeFifo | powerOn => exact .inl rfl
  | readData => exact .inl u.readData_out
  | writeGlobal => exact .inl (u.writeGlobal_out c _)
  | writeCtrl => exact .inl (u.writeCtrl_out _)
  | receive n b => exact .inl (u.onReceive_out c b)
  | writeData n z val =>
    rcases u.writeData_out c (zextSize z val) with hout | ⟨hte, b, hout, hb⟩
    · exact .inl hout
    · rw [lowByte_zextSize] at hb
      exact .inr ⟨hte, z, val, b, rfl, hout, hb⟩

/-- The rules that change the RX FIFO: the receive callback, the DATA read, and the two resets (R170, R117, R161). -/
theorem UartRule.rx_cases {c : Config} {i : Instr} {rule : Uart → Uart × Reply} (h : UartRule c i rule) (u : Uart) :
    (rule u).1.rx = u.rx ∨
      (u.re = true ∧ u.rx.length < c.uart.rxCap ∧
        ∃ b, i = .uartEvtRx (i.descriptor c).inst b ∧ (rule u).1.rx = u.rx ++ [b]) ∨
      (∃ z b, i = .uartRdData (i.descriptor c).inst z ∧ u.rx = b :: (rule u).1.rx) ∨
      ((rule u).1.rx = [] ∧ (i = .uartEvtPor (i.descriptor c).inst ∨
        ∃ z val, i = .uartWrGlobal (i.descriptor c).inst z val ∧ val.getLsbD 0 = true)) := by
  cases h with
  | answer | store | storeWater | writeStat | writeFifo => exact .inl rfl
  | writeCtrl => exact .inl (u.writeCtrl_rx _)
  | writeData => exact .inl (u.writeData_rx c _)
  | powerOn => exact .inr (.inr (.inr ⟨rfl, .inl rfl⟩))
  | readData n z =>
    rcases u.readData_rx with hrx | ⟨b, hrx⟩
    · exact .inl hrx
    · exact .inr (.inr (.inl ⟨z, b, rfl, hrx⟩))
  | writeGlobal n z val =>
    rcases u.writeGlobal_rx c (zextSize z val) with hrx | ⟨hrx, hrst⟩
    · exact .inl hrx
    · rw [getLsbD_zextSize_low z val (by decide)] at hrst
      exact .inr (.inr (.inr ⟨hrx, .inr ⟨z, val, rfl, hrst⟩⟩))
  | receive n b =>
    by_cases haccepts : u.re = true ∧ u.rx.length < c.uart.rxCap
    · have ⟨hre, hroom⟩ := haccepts
      exact .inr (.inl ⟨hre, hroom, b, rfl, (u.onReceive_rx c b).trans (if_pos haccepts)⟩)
    · exact .inl ((u.onReceive_rx c b).trans (if_neg haccepts))

/-! ## Sequences of operations on one UART (R50) -/

/-- A state differs nowhere from itself. -/
theorem OnlyUart.refl {n : Nat} {s : State} {u : Uart} (hu : s.uarts[n]? = some u) : OnlyUart n u s s :=
  ⟨rfl, rfl, rfl, rfl, hu, fun _ _ => rfl⟩

/-- Two changes of one instance change that instance only. -/
theorem OnlyUart.trans {n : Nat} {s t r : State} {u v : Uart} (hst : OnlyUart n u s t) (htr : OnlyUart n v t r) :
    OnlyUart n v s r := by
  obtain ⟨hcfg, hops, hspis, hlen, -, hother⟩ := hst
  obtain ⟨hcfg', hops', hspis', hlen', hself', hother'⟩ := htr
  exact ⟨hcfg'.trans hcfg, hops'.trans hops, hspis'.trans hspis, hlen'.trans hlen, hself',
    fun j hj => (hother' j hj).trans (hother j hj)⟩

/-- Performing an operation and then the others. -/
theorem performAll_cons {i : Instr} {is : List Instr} {s t r : State} {rs : List Reply} (hi : exec i s = .next t)
    (his : performAll is t = some (r, rs)) : performAll (i :: is) s = some (r, t.reply :: rs) := by
  simp only [performAll, hi, his, Option.map_some]

/-- Operations on one UART, by induction on those performed: if `R past u` relates the instance to the operations
performed so far, and the rule of the next one keeps that and replies as foreseen, then all of them perform, with those
replies, and `R` relates the last instance to all of them. -/
theorem performAll_uart {α : Type} {n : Nat} {c : Config} {op : α → Instr} {rule : α → Uart → Uart × Reply}
    {reply : α → Reply} {R : List α → Uart → Prop} {all : List α}
    (hop : ∀ a (s : State), s.cfg = c → exec (op a) s = onUart n (rule a) s)
    (hstep : ∀ past a u, past ++ [a] <+: all → R past u → R (past ++ [a]) (rule a u).1 ∧ (rule a u).2 = reply a)
    {s : State} {u : Uart} (hs : s.cfg = c) (hu : s.uarts[n]? = some u) (hR : R [] u) :
    ∃ t v, performAll (all.map op) s = some (t, all.map reply) ∧ OnlyUart n v s t ∧ R all v := by
  suffices hrest : ∀ rest past (s : State) u, past ++ rest = all → s.cfg = c → s.uarts[n]? = some u → R past u →
      ∃ t v, performAll (rest.map op) s = some (t, rest.map reply) ∧ OnlyUart n v s t ∧ R all v from
    hrest all [] s u rfl hs hu hR
  intro rest
  induction rest with
  | nil =>
    intro past s u hall _ hu hR
    rw [List.append_nil] at hall
    exact ⟨s, u, rfl, OnlyUart.refl hu, hall ▸ hR⟩
  | cons a rest ih =>
    intro past s u hall hs hu hR
    rw [List.append_cons] at hall
    obtain ⟨hR', hreply⟩ := hstep past a u ⟨rest, hall⟩ hR
    have honly := onlyUart_set (rule a u).1 (rule a u).2 hu
    have ⟨hcfg, _, _, _, hself, _⟩ := honly
    obtain ⟨t, v, ht, honly', hRall⟩ := ih (past ++ [a]) _ _ hall (hcfg.trans hs) hself hR'
    have hall' := performAll_cons ((hop a s hs).trans (onUart_next _ hu)) ht
    rw [hreply] at hall' honly
    exact ⟨t, v, hall', honly.trans honly', hRall⟩

/-! ## Bytes delivered, read back and transmitted (R173) -/

/-- `v` is an enabled receiver `u` with an empty RX FIFO, after the bytes `bs` were delivered to it. -/
structure Uart.Received (c : Config) (u : Uart) (bs : List Byte) (v : Uart) : Prop where
  enabled : v.re = true
  held : v.rx = bs.take c.uart.rxCap
  stream : v.out = u.out
  overrun : (v.reg .stat).getLsbD 19 = (decide (c.uart.rxCap < bs.length) || (u.reg .stat).getLsbD 19)
  fifo : v.reg .fifo = u.reg .fifo

/-- Delivering one byte more appends it while there is room, and sets OR once the FIFO is full. -/
theorem Uart.Received.onReceive {c : Config} {u v : Uart} {bs : List Byte} (h : Uart.Received c u bs v) (b : Byte) :
    Uart.Received c u (bs ++ [b]) (v.onReceive c b) := by
  obtain ⟨henabled, hheld, hstream, hoverrun, hfifo⟩ := h
  have hctrl := v.reg_onReceive c b (r := .ctrl) (by decide)
  have hlen : v.rx.length = min c.uart.rxCap bs.length := by rw [hheld, List.length_take]
  refine ⟨?_, ?_, (v.onReceive_out c b).trans hstream, ?_, (v.reg_onReceive c b (by decide)).trans hfifo⟩
  · unfold Uart.re at henabled ⊢
    rw [hctrl, henabled]
  · rw [Uart.onReceive_rx, Uart.rxAfterReceive]
    rcases Nat.lt_or_ge bs.length c.uart.rxCap with hroom | hfull
    · rw [if_pos ⟨henabled, by omega⟩, hheld, List.take_of_length_le hroom.le, List.take_of_length_le (by simpa)]
    · rw [if_neg (fun hc => by omega), hheld, List.take_append_of_le_length hfull]
  · rw [Uart.or_onReceive, Uart.orAfterReceive, hoverrun, List.length_append, List.length_singleton]
    rcases Nat.lt_or_ge bs.length c.uart.rxCap with hroom | hfull
    · rw [if_neg (fun hc => by omega), decide_eq_false (by omega), decide_eq_false (by omega)]
    · rw [if_pos ⟨henabled, by omega⟩, decide_eq_true (by omega), Bool.true_or]

/-- `v` is `u` after DATA reads that removed the bytes `bs` from its RX FIFO. -/
structure Uart.Drained (u : Uart) (bs : List Byte) (v : Uart) : Prop where
  held : bs ++ v.rx = u.rx
  fifo : v.reg .fifo = u.reg .fifo

/-- One DATA read more answers the next byte held and removes it. -/
theorem Uart.Drained.readData {u v : Uart} {bs : List Byte} {b : Byte} (h : u.Drained bs v)
    (hnext : bs ++ [b] <+: u.rx) : u.Drained (bs ++ [b]) v.readData.1 ∧ v.readData.2 = byteToWord b := by
  obtain ⟨hheld, hfifo⟩ := h
  obtain ⟨rest, hrest⟩ := hnext
  have hrx : v.rx = b :: rest := by
    rw [← hrest, List.append_assoc] at hheld
    exact List.append_cancel_left hheld
  rw [Uart.readData_cons hrx]
  refine ⟨⟨hrest, ?_⟩, rfl⟩
  rw [Uart.reg_setRegBit, if_neg (by decide), Uart.reg_setReg, if_neg (by decide), Uart.reg_mk, Uart.regs_get, hfifo]

/-- `v` is an enabled transmitter `u` with an empty TX FIFO, after the words `ws` were written to its DATA. -/
structure Uart.Transmitted (u : Uart) (ws : List Word) (v : Uart) : Prop where
  enabled : v.te = true
  stream : v.out = u.out ++ ws.map (fun w => w.setWidth 8)
  queue : v.tx = []
  held : v.rx = u.rx
  flags : ws ≠ [] → (v.reg .stat).getLsbD 22 = true ∧ (v.reg .stat).getLsbD 23 = true

/-- One DATA write more sends the low byte of its word, and leaves nothing queued. -/
theorem Uart.Transmitted.writeData {c : Config} {u v : Uart} {ws : List Word} (h : u.Transmitted ws v)
    (hcap : 1 ≤ c.uart.txCap) (z : Size) (w : Word) :
    u.Transmitted (ws ++ [w]) (v.writeData c (zextSize z w)) := by
  obtain ⟨henabled, hstream, hqueue, hheld, -⟩ := h
  have hpush : v.tx ++ [lowByte (zextSize z w)] = [w.setWidth 8] := by rw [hqueue, lowByte_zextSize, List.nil_append]
  rw [Uart.writeData_of_room henabled (by rw [hqueue]; exact hcap) hpush]
  refine ⟨?_, ?_, rfl, hheld, fun _ => ⟨Uart.tc_setTransmitFlags _ _ _, ?_⟩⟩
  · rw [Uart.te, Uart.reg_setTransmitFlags _ _ _ (by decide)]
    exact henabled
  · rw [List.map_append, ← List.append_assoc, ← hstream]
    rfl
  · rw [Uart.tdre_setTransmitFlags]
    exact decide_eq_true (Nat.zero_le _)

end Sys2Proof.Machine

namespace Sys2Proof.Proofs

open Sys2Proof.Machine

/-- Settles O36: the query only answers, with the word of the condition. -/
theorem canAcceptAnswersReceiverAndRoom : Obligations.CanAcceptAnswersReceiverAndRoom := by
  intro s n u hu
  have hsel : packSel .evt (some .b1) .uart 2#24 = 0x80000002#32 := by decide
  refine ⟨hsel, (onUart_pure hu rfl).trans ?_⟩
  have hword : b2w (u.canAccept s.cfg) =
      if (u.reg .ctrl).getLsbD 18 = true ∧ u.rx.length < s.cfg.uart.rxCap then 1#32 else 0#32 :=
    if_congr Uart.canAccept_iff rfl rfl
  rw [hword]
  rfl

/-- Settles O35: the callback stores the RX FIFO, OR and RDRF. -/
theorem uartReceiveStoresOrOverruns : Obligations.UartReceiveStoresOrOverruns := by
  intro s n b u hu
  refine ⟨_, u.onReceive s.cfg b, onUart_next _ hu, onlyUart_set _ _ hu, rfl, u.onReceive_rx s.cfg b,
    u.or_onReceive s.cfg b, ?_, u.sameBits_onReceive s.cfg b, u.onReceive_tx s.cfg b, u.onReceive_out s.cfg b,
    fun _ hr => u.reg_onReceive s.cfg b hr⟩
  rw [Uart.onReceive_rx]
  exact u.rdrf_onReceive s.cfg b

/-- Settles O49: each UART rule is one that sends or moves a byte as said, or does not; a DATA read of a byte held
answers it. -/
theorem uartBytesMoveOnlyAsTheStreamsSay : Obligations.UartBytesMoveOnlyAsTheStreamsSay := by
  intro i s t n u v h hu hv
  rcases exec_uart_cases h hu hv with rfl | ⟨rfl, rule, hrule, rfl⟩
  · exact ⟨.inl rfl, .inl rfl⟩
  · refine ⟨hrule.out_cases u, (hrule.rx_cases u).imp_right (.imp_right (.imp_left ?_))⟩
    rintro ⟨z, b, hi, hrx⟩
    rw [hi] at h
    obtain ⟨t', ht', -, hreply⟩ := uartRead_next z hu (Uart.readData_cons hrx)
    obtain rfl : t' = t := Host.Outcome.next.inj (ht'.symm.trans h)
    exact ⟨z, b, hi, hrx, congrArg Reply.value hreply⟩

/-- Settles O53: the bytes delivered are held up to the capacity, and as many DATA reads drain them. -/
theorem uartReceivedBytesAreReadInOrder : Obligations.UartReceivedBytesAreReadInOrder := by
  intro s n u bs hu hre hrx
  have hstart : Uart.Received s.cfg u [] u := ⟨hre, by rw [hrx, List.take_nil], rfl, rfl, rfl⟩
  obtain ⟨t, v, ht, honly, hreceived⟩ := performAll_uart (c := s.cfg) (op := fun b => .uartEvtRx n b)
    (rule := fun b w => (w.onReceive s.cfg b, .done)) (reply := fun _ => .done) (all := bs)
    (fun _ _ hs => hs ▸ rfl) (fun _ b _ _ h => ⟨h.onReceive b, rfl⟩) rfl hu hstart
  have ⟨hcfg, _, _, _, hv, _⟩ := honly
  obtain ⟨t', v', ht', honly', hdrained⟩ := performAll_uart (c := s.cfg) (op := fun _ => .uartRdData n .b4)
    (rule := fun _ w => (w.readData.1, .ofValue (truncSize .b4 w.readData.2)))
    (reply := fun b => .ofValue (b.setWidth 32)) (all := v.rx) (R := v.Drained) (fun _ _ _ => rfl)
    (fun _ b w hnext h => by
      obtain ⟨hdrained, hword⟩ := h.readData hnext
      rw [hword, truncSize_b4]
      exact ⟨hdrained, rfl⟩)
    hcfg hv ⟨rfl, rfl⟩
  refine ⟨t, v, _, ht, honly, hreceived.held, hreceived.stream, hreceived.overrun, t', v', ht', honly.trans honly',
    List.append_right_eq_self.mp hdrained.held, ?_⟩
  rw [hdrained.fifo, hreceived.fifo]

/-- Settles O54: each DATA write finds the TX FIFO empty and sends its byte. -/
theorem uartTransmittedBytesAppearInOrder : Obligations.UartTransmittedBytesAppearInOrder := by
  intro s n z u ws hu hte htx hcap
  have hstart : u.Transmitted [] u := ⟨hte, (List.append_nil _).symm, htx, rfl, fun h => absurd rfl h⟩
  obtain ⟨t, v, ht, honly, hsent⟩ := performAll_uart (c := s.cfg) (op := fun w => .uartWrData n z w)
    (rule := fun w v => (v.writeData s.cfg (zextSize z w), .done)) (reply := fun _ => .done) (all := ws)
    (fun _ _ hs => hs ▸ rfl) (fun _ w _ _ h => ⟨h.writeData hcap z w, rfl⟩) rfl hu hstart
  exact ⟨t, v, _, ht, honly, hsent.stream, hsent.queue, hsent.held, hsent.flags⟩

end Sys2Proof.Proofs
end

section
/-!
PROOFS. The SPI reads that are not plain (44_spi_read.md): the live words of SR, FSR and RSR (rules R183, R193, R196),
said bit by bit, and the two reads of the RX FIFO (rules R197, R198), said by one equation for a FIFO that holds a word
and one for an empty FIFO.
-/

namespace Sys2Proof

/-- The sticky flags WCF, FCF, TCF, TEF and REF are bits 8 to 12 of SR (R23). -/
theorem getLsbD_srStickyMask (j : Nat) : (0x00001F00#32).getLsbD j = decide (8 ≤ j ∧ j ≤ 12) :=
  getLsbD_eq_decide _ (fun i => 8 ≤ i ∧ i ≤ 12) (by decide) (fun _ h => by omega) j

namespace Machine

/-! ## The live words of SR, FSR and RSR (R102) -/

/-- SR reads as stored in its sticky flags, with TDF and RDF computed below them and 0 elsewhere (R23). -/
theorem Spi.getLsbD_srLive (p : Spi) (j : Nat) :
    p.srLive.getLsbD j =
      if j = 0 then p.tdf else if j = 1 then p.rdf else decide (8 ≤ j ∧ j ≤ 12) && (p.reg .sr).getLsbD j := by
  rcases Nat.lt_or_ge j 32 with hj | hj
  · have htdf := getLsbD_b2w_shiftLeft p.tdf 0 hj
    rw [BitVec.shiftLeft_zero] at htdf
    unfold Spi.srLive
    rw [BitVec.getLsbD_or, BitVec.getLsbD_or, BitVec.getLsbD_and, getLsbD_srStickyMask, htdf,
      getLsbD_b2w_shiftLeft _ _ hj]
    by_cases h0 : j = 0
    · simp [h0]
    · by_cases h1 : j = 1 <;> simp [h0, h1, Bool.and_comm]
  · rw [BitVec.getLsbD_of_ge _ _ hj, if_neg (by omega), if_neg (by omega), decide_eq_false (by omega), Bool.false_and]

/-- While the TX occupancy fits its half-word FSR has the two occupancies side by side (R27). -/
theorem Spi.getLsbD_fsr {p : Spi} (htx : p.tx.length ≤ 65535) {j : Nat} (hj : j < 32) :
    p.fsr.getLsbD j = if j < 16 then p.tx.length.testBit j else p.rx.length.testBit (j - 16) := by
  unfold Spi.fsr
  rw [BitVec.getLsbD_or, getLsbD_ofNat_shiftLeft _ _ hj, BitVec.getLsbD_ofNat, decide_eq_true hj]
  rcases Nat.lt_or_ge j 16 with h16 | h16
  · simp [h16, Nat.not_le.mpr h16]
  · have hfits : p.tx.length.testBit j = false :=
      Nat.testBit_lt_two_pow (calc
        p.tx.length < 2 ^ 16 := by omega
        _ ≤ 2 ^ j := Nat.pow_le_pow_right (by omega) h16)
    simp [h16, hfits, Nat.not_lt.mpr h16]

/-- The two half-words of an FSR read (R27, R193). -/
theorem Spi.fsr_halves {p : Spi} (htx : p.tx.length ≤ 65535) :
    p.fsr.extractLsb' 0 16 = BitVec.ofNat 16 p.tx.length ∧ p.fsr.extractLsb' 16 16 = BitVec.ofNat 16 p.rx.length := by
  refine ⟨?_, ?_⟩ <;> refine BitVec.eq_of_getLsbD_eq fun i hi => ?_ <;>
    rw [BitVec.getLsbD_extractLsb', Spi.getLsbD_fsr htx (by omega), BitVec.getLsbD_ofNat]
  · rw [if_pos (by omega), Nat.zero_add]
  · rw [if_neg (by omega), Nat.add_sub_cancel_left]

/-- An RSR read of any size shows RXEMPTY, which lies in the low byte (R28, R196). -/
theorem Spi.truncSize_rsr (z : Size) (p : Spi) : truncSize z p.rsr = if p.rx = [] then 2#32 else 0#32 := by
  cases hrx : p.rx with
  | nil =>
    rw [Spi.rsr_of_empty hrx, if_pos rfl]
    cases z <;> rfl
  | cons e rest =>
    have hrsr : p.rsr = 0#32 := by
      unfold Spi.rsr
      rw [hrx]
      rfl
    rw [hrsr, truncSize_zero, if_neg (List.cons_ne_nil e rest)]

/-! ## The RDR and RDROR reads (R197, R198) -/

/-- An SPI read answers the truncated result of its rule, and leaves its instance as the rule says (R45, R95). -/
theorem spiRead_next {n : Nat} {s : State} {p q : Spi} {w : Word} (z : Size) {rule : Spi → Spi × Word}
    (hp : s.spis[n]? = some p) (hrule : rule p = (q, w)) :
    ∃ t, spiRead n z rule s = .next t ∧ OnlySpi n q s t ∧ t.reply = .ofValue (truncSize z w) := by
  refine ⟨_, onSpi_next _ hp, ?_, ?_⟩
  · rw [hrule]
    exact onlySpi_set q _ hp
  · rw [hrule]

/-- The bit of a register that was set to `b` is `b`. -/
theorem Spi.getLsbD_setRegBit_self (p : Spi) (r : SpiReg) {i : Nat} (hi : i < 32) (b : Bool) :
    ((p.setRegBit r i b).reg r).getLsbD i = b := by
  rw [Spi.reg_setRegBit, if_pos rfl, getLsbD_setBit, if_pos ⟨rfl, hi⟩]

/-- Setting one bit of a register keeps its other bits. -/
theorem Spi.sameBits_setRegBit (p : Spi) (r : SpiReg) (i : Nat) (b : Bool) :
    SameBits [i] (p.reg r) ((p.setRegBit r i b).reg r) := by
  intro j _ hj
  rw [Spi.reg_setRegBit, if_pos rfl, getLsbD_setBit, if_neg fun h => hj (List.mem_singleton.mpr h.1)]

/-- With a word held, an RDR read removes the oldest one and answers it. -/
theorem Spi.readRdr_cons {p : Spi} {e : Word} {rest : List Word} (h : p.rx = e :: rest) :
    p.readRdr = ({ p with rx := rest }, e) := by
  unfold Spi.readRdr
  rw [h]
  rfl

/-- With nothing held, an RDR read sets REF and answers all ones (R241). -/
theorem Spi.readRdr_nil {p : Spi} (h : p.rx = []) : p.readRdr = (p.setRegBit .sr 12 true, 0xFFFFFFFF#32) := by
  obtain ⟨regs, tx, rx, enabled, master, sent⟩ := p
  obtain rfl : rx = [] := h
  rfl

/-- An RDROR read answers the oldest word held, or all ones, and leaves its instance alone. -/
theorem Spi.readRdror_eq (p : Spi) : p.readRdror = (p, p.rx.headD 0xFFFFFFFF#32) := by
  unfold Spi.readRdror
  cases p.rx <;> rfl

end Machine

end Sys2Proof

namespace Sys2Proof.Proofs

open Sys2Proof.Machine

/-- Settles O25: the live words, bit by bit and half-word by half-word; RXEMPTY survives every truncation. -/
theorem spiStatusReadsAreLive : Obligations.SpiStatusReadsAreLive := by
  intro s n z p hp
  have hrsr := spiRead_pure z (rule := fun p => (p, p.rsr)) hp rfl
  rw [Spi.truncSize_rsr] at hrsr
  exact ⟨⟨p.srLive, spiRead_pure z hp rfl, p.getLsbD_srLive⟩,
    fun htx => ⟨p.fsr, spiRead_pure z hp rfl, Spi.fsr_halves htx⟩, hrsr⟩

/-- Settles O26: the pop changes the RX FIFO only, and the underflow one bit of SR only. -/
theorem spiRdrReadPopsOrUnderflows : Obligations.SpiRdrReadPopsOrUnderflows := by
  intro s n z p hp
  refine ⟨fun e rest hrx => ?_, fun hrx => ?_⟩
  · obtain ⟨t, ht, honly, hreply⟩ := spiRead_next z hp (Spi.readRdr_cons hrx)
    exact ⟨t, _, ht, honly, hreply, rfl⟩
  · obtain ⟨t, ht, honly, hreply⟩ := spiRead_next z hp (Spi.readRdr_nil hrx)
    exact ⟨t, _, ht, honly, hreply, p.sameBut_setReg .sr _, p.getLsbD_setRegBit_self .sr (by decide) true,
      p.sameBits_setRegBit .sr 12 true⟩

/-- Settles O27: RDROR peeks, so that only the reply changes. -/
theorem spiRdrorPeeksWithoutEffect : Obligations.SpiRdrorPeeksWithoutEffect := by
  intro s n z p hp
  have hread := spiRead_pure z hp (congrArg Prod.fst p.readRdror_eq)
  rwa [p.readRdror_eq] at hread

end Sys2Proof.Proofs
end

section
/-!
PROOFS. The SPI writes that are not plain (45_spi_write.md rules R212, R213, R217, R225): one equation per branch, or
bit by bit; which rules move a word towards the peer (R233, `SpiRule.words_cases`); and the loopback round trip (R232),
by induction on the words written and on the words held.
-/

namespace Sys2Proof

/-- The action bits RST, RTF and RRF are bits 1, 8 and 9 of CR (R22). -/
theorem getLsbD_crActionMask (j : Nat) : (0x00000302#32).getLsbD j = decide (j = 1 ∨ j = 8 ∨ j = 9) :=
  getLsbD_eq_decide _ (fun i => i = 1 ∨ i = 8 ∨ i = 9) (by decide) (fun _ h => by omega) j

namespace Machine

/-! ## A write to an SPI (R95) -/

/-- An SPI write leaves its instance as the rule says for the zero-extended value, and returns nothing (R45, R95). -/
theorem spiWrite_next {n : Nat} {s : State} {p : Spi} (z : Size) (val : Word) (rule : Word → Spi → Spi)
    (hp : s.spis[n]? = some p) :
    ∃ t, spiWrite n z val rule s = .next t ∧ OnlySpi n (rule (zextSize z val) p) s t ∧ t.reply = .done :=
  ⟨_, onSpi_next _ hp, onlySpi_set _ _ hp, rfl⟩

/-! ## The CR and SR writes (R212, R213) -/

/-- The word that a CR write stores has its action bits clear (R22). -/
theorem getLsbD_storedCr (w : Word) (j : Nat) :
    (w &&& ~~~0x00000302#32).getLsbD j = if j = 1 ∨ j = 8 ∨ j = 9 then false else w.getLsbD j := by
  rcases Nat.lt_or_ge j 32 with hj | hj
  · rw [BitVec.getLsbD_and, BitVec.getLsbD_not, getLsbD_crActionMask, decide_eq_true hj]
    by_cases haction : j = 1 ∨ j = 8 ∨ j = 9 <;> simp [haction]
  · rw [BitVec.getLsbD_of_ge _ _ hj, BitVec.getLsbD_of_ge w j hj, ite_self]

/-- An SR write clears the sticky flags written as 1 (R213). -/
theorem Spi.getLsbD_writeSr (w : Word) (p : Spi) (j : Nat) :
    ((p.writeSr w).reg .sr).getLsbD j =
      ((p.reg .sr).getLsbD j && !(decide (8 ≤ j ∧ j ≤ 12) && w.getLsbD j)) := by
  unfold Spi.writeSr
  rw [Spi.reg_setReg, if_pos rfl, getLsbD_clearOnes, getLsbD_srStickyMask, Bool.and_comm (w.getLsbD j)]

/-! ## The TDR write (R225) -/

/-- On a full TX FIFO a TDR write sets TEF and drops its word, enabled or not. -/
theorem Spi.writeTdr_of_full {c : Config} {p : Spi} (n : Nat) (w : Word) (hfull : c.spi.txCap ≤ p.tx.length) :
    p.writeTdr c n w = p.setRegBit .sr 11 true := by
  unfold Spi.writeTdr
  rw [fifoPush_full w hfull]
  rfl

/-- With room, a TDR write to a disabled module queues its word. -/
theorem Spi.writeTdr_of_disabled {c : Config} {p : Spi} (n : Nat) (w : Word) (hdisabled : p.enabled = false)
    (hroom : p.tx.length < c.spi.txCap) : p.writeTdr c n w = { p with tx := p.tx ++ [w] } := by
  unfold Spi.writeTdr
  rw [fifoPush_room w hroom]
  exact if_neg (ne_true_of_eq_false hdisabled)

/-- The word of a peer that is no loopback is the free value of log 3. -/
theorem peerWord_external {c : Config} {n : Nat} (h : peerOf c n = .external) (sent : List Word) (w : Word) :
    peerWord c n sent w = Config.peerAnswer n sent := by
  unfold peerWord
  rw [h]

/-- What a push leaves in the FIFO (R90). -/
theorem fifoPush_snd {α : Type} (cap : Nat) (f : List α) (e : α) :
    (fifoPush cap f e).2 = if f.length < cap then f ++ [e] else f := apply_ite Prod.snd _ _ _

/-- `q` is the SPI instance `n` that was `p`, after it exchanged the word `e` and kept `rest` queued (R231). -/
structure Spi.Exchanged (c : Config) (n : Nat) (p : Spi) (e : Word) (rest : List Word) (q : Spi) : Prop where
  queue : q.tx = rest
  sent : q.sent = p.sent ++ [e]
  held : q.rx = if p.rx.length < c.spi.rxCap then p.rx ++ [peerWord c n (p.sent ++ [e]) e] else p.rx
  enabled : q.enabled = p.enabled
  master : q.master = p.master
  other : ∀ r, r ≠ .sr → q.reg r = p.reg r
  sr : ∀ j, (q.reg .sr).getLsbD j =
    if j = 8 ∨ j = 9 ∨ (j = 10 ∧ rest = []) ∨ (j = 12 ∧ c.spi.rxCap ≤ p.rx.length) then true
    else (p.reg .sr).getLsbD j

/-- With room, a TDR write to an enabled module exchanges the oldest word of the queue with its own appended. -/
theorem Spi.writeTdr_exchanged {c : Config} {p : Spi} (n : Nat) {w e : Word} {rest : List Word}
    (henabled : p.enabled = true) (hroom : p.tx.length < c.spi.txCap) (hqueue : p.tx ++ [w] = e :: rest) :
    Spi.Exchanged c n p e rest (p.writeTdr c n w) := by
  have hcycle : p.writeTdr c n w = ({ p with tx := p.tx ++ [w] } : Spi).transferCycle c n := by
    unfold Spi.writeTdr
    rw [fifoPush_room w hroom]
    exact if_pos henabled
  obtain ⟨htx, hsent, hrx, hen, hmaster, hother, hsr⟩ :=
    transferCycle_spec c n { p with tx := p.tx ++ [w] } e rest hqueue
  rw [hcycle]
  exact ⟨htx, hsent, hrx.trans (fifoPush_snd _ _ _), hen, hmaster, hother, hsr⟩

/-- Everything a TDR write can do (R225). -/
theorem Spi.writeTdr_cases (c : Config) (n : Nat) (w : Word) (p : Spi) :
    p.writeTdr c n w = p.setRegBit .sr 11 true ∨
    (p.tx.length < c.spi.txCap ∧ p.writeTdr c n w = { p with tx := p.tx ++ [w] }) ∨
    (p.tx.length < c.spi.txCap ∧ p.enabled = true ∧
      ∃ e rest, p.tx ++ [w] = e :: rest ∧ Spi.Exchanged c n p e rest (p.writeTdr c n w)) := by
  rcases Nat.lt_or_ge p.tx.length c.spi.txCap with hroom | hfull
  · rcases Bool.eq_false_or_eq_true p.enabled with henabled | hdisabled
    · obtain ⟨e, rest, hqueue⟩ := List.exists_cons_of_ne_nil (show p.tx ++ [w] ≠ [] by simp)
      exact .inr (.inr ⟨hroom, henabled, e, rest, hqueue, Spi.writeTdr_exchanged n henabled hroom hqueue⟩)
    · exact .inr (.inl ⟨hroom, Spi.writeTdr_of_disabled n w hdisabled hroom⟩)
  · exact .inl (Spi.writeTdr_of_full n w hfull)

/-! ## The words that a rule moves (R233) -/

/-- A TDR write keeps the words exchanged and queued in their order, and appends its own where there is room. -/
theorem Spi.writeTdr_words (c : Config) (n : Nat) (w : Word) (p : Spi) :
    (p.writeTdr c n w).sent ++ (p.writeTdr c n w).tx = p.sent ++ p.tx ∨
      (p.tx.length < c.spi.txCap ∧
        (p.writeTdr c n w).sent ++ (p.writeTdr c n w).tx = p.sent ++ p.tx ++ [w]) := by
  rcases p.writeTdr_cases c n w with h | ⟨hroom, h⟩ | ⟨hroom, -, e, rest, hqueue, h⟩
  · exact .inl (by rw [h]; rfl)
  · exact .inr ⟨hroom, by rw [h]; exact (List.append_assoc _ _ _).symm⟩
  · exact .inr ⟨hroom, by rw [h.sent, h.queue, ← List.append_cons, ← hqueue, List.append_assoc]⟩

/-- A TDR write passes no word to the peer, or one while the module is enabled. -/
theorem Spi.writeTdr_sent (c : Config) (n : Nat) (w : Word) (p : Spi) :
    (p.writeTdr c n w).sent = p.sent ∨ (p.enabled = true ∧ ∃ e, (p.writeTdr c n w).sent = p.sent ++ [e]) := by
  rcases p.writeTdr_cases c n w with h | ⟨-, h⟩ | ⟨-, henabled, e, rest, -, h⟩
  · exact .inl (by rw [h]; rfl)
  · exact .inl (by rw [h])
  · exact .inr ⟨henabled, e, h.sent⟩

/-- A CR write leaves the words exchanged alone; it loses the queue only by RST or RTF (R212). -/
theorem Spi.writeCr_words (c : Config) (w : Word) (p : Spi) :
    (p.writeCr c w).sent = p.sent ∧ ((p.writeCr c w).tx = p.tx ∨
      ((p.writeCr c w).tx = [] ∧ (w.getLsbD 1 = true ∨ w.getLsbD 8 = true))) := by
  cases hrst : w.getLsbD 1 with
  | true =>
    rw [Spi.writeCr_of_rst p hrst]
    exact ⟨rfl, .inr ⟨rfl, .inl rfl⟩⟩
  | false =>
    rw [Spi.writeCr_of_no_rst p hrst]
    cases w.getLsbD 8 with
    | true => exact ⟨rfl, .inr ⟨rfl, .inr rfl⟩⟩
    | false => exact ⟨rfl, .inl rfl⟩

/-- An RDR read leaves the words exchanged alone. -/
theorem Spi.readRdr_sent (p : Spi) : p.readRdr.1.sent = p.sent := by
  cases h : p.rx with
  | nil => rw [Spi.readRdr_nil h]; rfl
  | cons e rest => rw [Spi.readRdr_cons h]

/-- What a rule does to the words exchanged and queued: it keeps both, it is a TDR write, or it loses the queue (R230,
R260). -/
theorem SpiRule.words_cases {c : Config} {i : Instr} {rule : Spi → Spi × Reply} (h : SpiRule c i rule) (p : Spi) :
    ((rule p).1.sent = p.sent ∧ (rule p).1.tx = p.tx) ∨
    (∃ z val, i = .spiWrTdr (i.descriptor c).inst z val ∧
      (rule p).1 = p.writeTdr c (i.descriptor c).inst (zextSize z val)) ∨
    ((rule p).1.sent = p.sent ∧ (rule p).1.tx = [] ∧ (i = .spiEvtPor (i.descriptor c).inst ∨
      ∃ z val, i = .spiWrCr (i.descriptor c).inst z val ∧
        (val.getLsbD 1 = true ∨ (zextSize z val).getLsbD 8 = true))) := by
  cases h with
  | answer | store | writeSr | writeCfgr1 => exact .inl ⟨rfl, rfl⟩
  | readRdr => exact .inl ⟨p.readRdr_sent, p.readRdr_tx⟩
  | writeTdr n z val => exact .inr (.inl ⟨z, val, rfl, rfl⟩)
  | powerOn => exact .inr (.inr ⟨rfl, rfl, .inl rfl⟩)
  | writeCr n z val =>
    obtain ⟨hsent, htx | ⟨htx, hlost⟩⟩ := p.writeCr_words c (zextSize z val)
    · exact .inl ⟨hsent, htx⟩
    · rw [getLsbD_zextSize_low z val (by decide)] at hlost
      exact .inr (.inr ⟨hsent, htx, .inr ⟨z, val, rfl, hlost⟩⟩)

/-! ## Sequences of operations on one SPI (R50) -/

/-- A state differs nowhere from itself. -/
theorem OnlySpi.refl {n : Nat} {s : State} {p : Spi} (hp : s.spis[n]? = some p) : OnlySpi n p s s :=
  ⟨rfl, rfl, rfl, rfl, hp, fun _ _ => rfl⟩

/-- Two changes of one instance change that instance only. -/
theorem OnlySpi.trans {n : Nat} {s t r : State} {p q : Spi} (hst : OnlySpi n p s t) (htr : OnlySpi n q t r) :
    OnlySpi n q s r := by
  obtain ⟨hcfg, hops, huarts, hlen, -, hother⟩ := hst
  obtain ⟨hcfg', hops', huarts', hlen', hself', hother'⟩ := htr
  exact ⟨hcfg'.trans hcfg, hops'.trans hops, huarts'.trans huarts, hlen'.trans hlen, hself',
    fun j hj => (hother' j hj).trans (hother j hj)⟩

/-- Writing a list of words to TDR applies the rule of R225 to each in turn. -/
theorem performAll_spiWrTdr {n : Nat} (ws : List Word) {s : State} {p : Spi} (hp : s.spis[n]? = some p) :
    ∃ t, performAll (ws.map (fun w => .spiWrTdr n .b4 w)) s = some (t, ws.map (fun _ => .done)) ∧
      OnlySpi n (ws.foldl (fun q w => q.writeTdr s.cfg n w) p) s t := by
  induction ws generalizing s p with
  | nil => exact ⟨s, rfl, OnlySpi.refl hp⟩
  | cons w ws ih =>
    obtain ⟨s', hs', honly, hreply⟩ := spiWrite_next .b4 w (Spi.writeTdr s.cfg n) hp
    have ⟨hcfg, _, _, _, hself, _⟩ := honly
    obtain ⟨t, ht, honly'⟩ := ih hself
    have hall := performAll_cons (i := .spiWrTdr n .b4 w) hs' ht
    rw [hreply] at hall
    rw [hcfg, zextSize_b4] at honly'
    exact ⟨t, hall, honly.trans honly'⟩

/-- Reading RDR once per word held answers the words in order and empties the RX FIFO (R197). -/
theorem performAll_spiRdRdr {n : Nat} (es : List Word) {s : State} {p : Spi} (hp : s.spis[n]? = some p)
    (hrx : p.rx = es) :
    ∃ t, performAll (es.map (fun _ => .spiRdRdr n .b4)) s = some (t, es.map .ofValue) ∧
      OnlySpi n { p with rx := [] } s t := by
  induction es generalizing s p with
  | nil =>
    refine ⟨s, rfl, ?_⟩
    rw [← hrx]
    exact OnlySpi.refl hp
  | cons e es ih =>
    obtain ⟨s', hs', honly, hreply⟩ := spiRead_next .b4 hp (Spi.readRdr_cons hrx)
    have ⟨_, _, _, _, hself, _⟩ := honly
    obtain ⟨t, ht, honly'⟩ := ih hself rfl
    have hall := performAll_cons (i := .spiRdRdr n .b4) hs' ht
    rw [hreply, truncSize_b4] at hall
    exact ⟨t, hall, honly.trans honly'⟩

/-! ## Words written to TDR in loopback (R232) -/

/-- `q` is an enabled module `p` with empty FIFOs and a loopback peer, after the words `ws` were written to its TDR. -/
structure Spi.LoopedBack (c : Config) (p : Spi) (ws : List Word) (q : Spi) : Prop where
  enabled : q.enabled = true
  queue : q.tx = []
  held : q.rx = ws.take c.spi.rxCap
  exchanged : q.sent = p.sent ++ ws
  tef : (q.reg .sr).getLsbD 11 = (p.reg .sr).getLsbD 11
  ref : (q.reg .sr).getLsbD 12 = (decide (c.spi.rxCap < ws.length) || (p.reg .sr).getLsbD 12)

/-- One word more comes back while the RX FIFO has room, and is dropped with REF set once it is full. -/
theorem Spi.LoopedBack.writeTdr {c : Config} {n : Nat} {p q : Spi} {ws : List Word} (h : Spi.LoopedBack c p ws q)
    (hpeer : peerOf c n = .loopback) (hcap : 1 ≤ c.spi.txCap) (w : Word) :
    Spi.LoopedBack c p (ws ++ [w]) (q.writeTdr c n w) := by
  obtain ⟨henabled, hqueue, hheld, hexchanged, htef, href⟩ := h
  have hlen : q.rx.length = min c.spi.rxCap ws.length := by rw [hheld, List.length_take]
  have hcycle := Spi.writeTdr_exchanged (c := c) (w := w) (e := w) (rest := []) n henabled
    (by rw [hqueue]; exact hcap) (by rw [hqueue, List.nil_append])
  refine ⟨hcycle.enabled.trans henabled, hcycle.queue, ?_, ?_, ?_, ?_⟩
  · rw [hcycle.held, peerWord_loopback hpeer]
    rcases Nat.lt_or_ge ws.length c.spi.rxCap with hroom | hfull
    · rw [if_pos (by omega), hheld, List.take_of_length_le hroom.le, List.take_of_length_le (by simpa)]
    · rw [if_neg (by omega), hheld, List.take_append_of_le_length hfull]
  · rw [hcycle.sent, hexchanged, List.append_assoc]
  · rw [hcycle.sr, if_neg (by omega), htef]
  · rw [hcycle.sr, List.length_append, List.length_singleton]
    rcases Nat.lt_or_ge ws.length c.spi.rxCap with hroom | hfull
    · rw [if_neg (by omega), href, decide_eq_false (by omega), decide_eq_false (by omega)]
    · rw [if_pos (by omega), decide_eq_true (by omega), Bool.true_or]

/-- Writing any list of words to TDR of an enabled module with empty FIFOs and a loopback peer (R232). -/
theorem Spi.loopedBack_foldl {c : Config} {n : Nat} {p : Spi} (hpeer : peerOf c n = .loopback)
    (henabled : p.enabled = true) (htx : p.tx = []) (hrx : p.rx = []) (hcap : 1 ≤ c.spi.txCap) (ws : List Word) :
    Spi.LoopedBack c p ws (ws.foldl (fun q w => q.writeTdr c n w) p) := by
  induction ws using List.reverseRecOn with
  | nil => exact ⟨henabled, htx, by rw [List.take_nil]; exact hrx, (List.append_nil _).symm, rfl, rfl⟩
  | append_singleton ws w ih =>
    rw [List.foldl_concat]
    exact ih.writeTdr hpeer hcap w

end Machine

end Sys2Proof

namespace Sys2Proof.Proofs

open Sys2Proof.Machine

/-- Settles O41: the CFGR1 write is a store to CFGR1 and to `master`; bit 0 reaches it at every size. -/
theorem spiCfgr1WriteLatchesMaster : Obligations.SpiCfgr1WriteLatchesMaster := by
  intro s n z val p hp
  obtain ⟨t, ht, honly, hreply⟩ := spiWrite_next z val Spi.writeCfgr1 hp
  exact ⟨t, _, ht, honly, hreply, (Spi.reg_setReg p .cfgr1 .cfgr1 _).trans (if_pos rfl),
    getLsbD_zextSize_low z val (by decide), fun r hr => (Spi.reg_setReg p .cfgr1 r _).trans (if_neg hr),
    rfl, rfl, rfl, rfl⟩

/-- Settles O39: bit 1 of the value reaches the rule at every size, and decides between reset and store. -/
theorem spiCrWriteResetsOrConfigures : Obligations.SpiCrWriteResetsOrConfigures := by
  intro s n z val p hp
  have hbit : ∀ j < 8, (zextSize z val).getLsbD j = val.getLsbD j := fun _ hj => getLsbD_zextSize_low z val hj
  obtain ⟨t, ht, honly, hreply⟩ := spiWrite_next z val (Spi.writeCr s.cfg) hp
  cases hrst : val.getLsbD 1 with
  | true =>
    rw [Spi.writeCr_of_rst p ((hbit 1 (by decide)).trans hrst)] at honly
    exact ⟨t, _, ht, honly, hreply, rfl, rfl, fun _ => ⟨rfl, rfl, rfl, fun r => p.reg_softReset s.cfg r⟩, nofun⟩
  | false =>
    rw [Spi.writeCr_of_no_rst p ((hbit 1 (by decide)).trans hrst)] at honly
    refine ⟨t, _, ht, honly, hreply, rfl, rfl, nofun, fun _ => ⟨fun j => ?_, hbit 0 (by decide), rfl, rfl,
      fun r hr => (Spi.reg_setReg p .cr r _).trans (if_neg hr)⟩⟩
    exact getLsbD_storedCr (zextSize z val) j

/-- Settles O40: the SR write is a store to SR, known bit by bit. -/
theorem spiSrWriteClearsStickyFlags : Obligations.SpiSrWriteClearsStickyFlags := by
  intro s n z val p hp
  obtain ⟨t, ht, honly, hreply⟩ := spiWrite_next z val Spi.writeSr hp
  exact ⟨t, _, ht, honly, hreply, p.sameBut_setReg .sr _, p.getLsbD_writeSr (zextSize z val)⟩

/-- Settles O42: the disabled module queues the word; the full FIFO costs one bit of SR. -/
theorem spiTdrWriteQueuesOrOverflows : Obligations.SpiTdrWriteQueuesOrOverflows := by
  intro s n z val p hp
  obtain ⟨t, ht, honly, hreply⟩ := spiWrite_next z val (Spi.writeTdr s.cfg n) hp
  refine ⟨fun hdisabled hroom => ?_, fun hfull => ?_⟩
  · rw [Spi.writeTdr_of_disabled n _ hdisabled hroom] at honly
    exact ⟨t, ht, hreply, honly⟩
  · rw [Spi.writeTdr_of_full n _ hfull] at honly
    exact ⟨t, _, ht, honly, hreply, p.sameBut_setReg .sr _, p.getLsbD_setRegBit_self .sr (by decide) true,
      p.sameBits_setRegBit .sr 11 true⟩

/-- Settles O43: the write runs one transfer cycle on the queue with its word appended. -/
theorem spiTdrWriteExchangesTheOldestWord : Obligations.SpiTdrWriteExchangesTheOldestWord := by
  intro s n z val p e rest hp henabled hroom hqueue
  obtain ⟨t, ht, honly, hreply⟩ := spiWrite_next z val (Spi.writeTdr s.cfg n) hp
  have hcycle := Spi.writeTdr_exchanged n henabled hroom hqueue
  refine ⟨t, _, peerWord s.cfg n (p.sent ++ [e]) e, ht, honly, hreply, fun h => peerWord_loopback h _ e,
    fun h => peerWord_external h _ e, hcycle.queue, hcycle.sent, hcycle.held, hcycle.enabled.trans henabled,
    hcycle.master, hcycle.other, (hcycle.sr 8).trans (if_pos (.inl rfl)),
    (hcycle.sr 9).trans (if_pos (.inr (.inl rfl))), ?_, ?_, fun j _ hj => ?_⟩
  · rw [hcycle.sr]
    by_cases hempty : rest = [] <;> simp [hempty]
  · rw [hcycle.sr]
    by_cases hfull : s.cfg.spi.rxCap ≤ p.rx.length <;> simp [hfull]
  · simp only [List.mem_cons, List.not_mem_nil, or_false, not_or] at hj
    exact (hcycle.sr j).trans (if_neg (by omega))

/-- Settles O48: every SPI rule keeps the words, is a TDR write, or loses the queue. -/
theorem spiWordsAreConservedInOrder : Obligations.SpiWordsAreConservedInOrder := by
  intro i s t n p q h hp hq
  rcases exec_spi_cases h hp hq with rfl | ⟨rfl, rule, hrule, rfl⟩
  · exact ⟨.inl rfl, .inl rfl⟩
  · rcases hrule.words_cases p with ⟨hsent, htx⟩ | ⟨z, val, hi, htdr⟩ | ⟨hsent, hlost⟩
    · exact ⟨.inl (by rw [hsent, htx]), .inl hsent⟩
    · rw [htdr]
      refine ⟨(p.writeTdr_words s.cfg _ (zextSize z val)).imp_right fun ⟨hroom, hwords⟩ =>
          .inl ⟨z, val, hi, hroom, hwords⟩,
        (p.writeTdr_sent s.cfg _ (zextSize z val)).imp_right fun ⟨henabled, e, hsent⟩ =>
          ⟨henabled, z, val, e, hi, hsent⟩⟩
    · exact ⟨.inr (.inr ⟨hsent, hlost⟩), .inl hsent⟩

/-- Settles O52: the words written come back up to the capacity, and as many RDR reads answer them. -/
theorem spiLoopbackRoundTrip : Obligations.SpiLoopbackRoundTrip := by
  intro s n p ws hp hpeer henabled htx hrx hcap
  obtain ⟨t, ht, honly⟩ := performAll_spiWrTdr ws hp
  have hlooped := Spi.loopedBack_foldl hpeer henabled htx hrx hcap ws
  have ⟨_, _, _, _, hself, _⟩ := honly
  refine ⟨t, _, _, ht, honly, hlooped.queue, hlooped.held, hlooped.exchanged, hlooped.tef, hlooped.ref,
    fun hfits => ?_⟩
  have hheld := hlooped.held.trans (List.take_of_length_le hfits)
  have href := hlooped.ref
  rw [decide_eq_false (Nat.not_lt.mpr hfits), Bool.false_or] at href
  obtain ⟨t', ht', honly'⟩ := performAll_spiRdRdr ws hself hheld
  exact ⟨t', _, ht', honly.trans honly', hlooped.queue, rfl, hlooped.tef, href⟩

end Sys2Proof.Proofs
end

section
/-!
PROOFS. The interrupt levels (60_exceptions.md rules R244, R245). A level is 1 exactly when one of the interrupt bits
of its kind is 1 both in the status word and in the enable word (`Uart.irq_iff`, `Spi.irq_iff`); so two instances that
agree in those bits have the same level (`Uart.irq_congr`, `Spi.irq_congr`), which is all that the frame clauses need.
-/

namespace Sys2Proof

/-- Two words meet under a mask exactly when both have a 1 at one of the places of the mask. -/
theorem and_mask_ne_zero_iff {v w m : Word} {js : List Nat} (hm : ∀ j, m.getLsbD j = decide (j ∈ js)) :
    v &&& w &&& m ≠ 0#32 ↔ ∃ j ∈ js, v.getLsbD j = true ∧ w.getLsbD j = true := by
  rw [ne_eq, and_eq_zero_iff]
  simp only [hm, decide_eq_true_eq, BitVec.getLsbD_and, not_forall, Bool.not_eq_false, Bool.and_eq_true, exists_prop]

/-- Setting a bit leaves every other bit. -/
theorem getLsbD_setBit_of_ne (w : Word) {i j : Nat} (b : Bool) (h : j ≠ i) :
    (setBit w i b).getLsbD j = w.getLsbD j := by
  rw [getLsbD_setBit, if_neg fun hc => h hc.1]

namespace Machine

/-! ## The level of a UART (R244) -/

/-- The bits of RDRF, TDRE, TC and IDLE in STAT, and of their enables in CTRL (R12, R13). -/
abbrev Uart.irqBits : List Nat := [21, 23, 22, 20]

theorem Uart.mem_irqBits_iff {j : Nat} : j ∈ Uart.irqBits ↔ 20 ≤ j ∧ j ≤ 23 := by
  simp only [List.mem_cons, List.not_mem_nil, or_false]
  omega

theorem Uart.getLsbD_irqMask (j : Nat) : (0x00F00000#32).getLsbD j = decide (j ∈ Uart.irqBits) :=
  getLsbD_eq_decide _ (· ∈ Uart.irqBits) (by decide) (by decide) j

theorem Uart.irq_iff {u : Uart} :
    u.irq = true ↔ ∃ j ∈ Uart.irqBits, (u.reg .stat).getLsbD j = true ∧ (u.reg .ctrl).getLsbD j = true :=
  decide_eq_true_iff.trans (and_mask_ne_zero_iff Uart.getLsbD_irqMask)

/-- The level depends on the four bits of STAT and the four of CTRL alone. -/
theorem Uart.irq_congr {u v : Uart}
    (hstat : ∀ j ∈ Uart.irqBits, (v.reg .stat).getLsbD j = (u.reg .stat).getLsbD j)
    (hctrl : ∀ j ∈ Uart.irqBits, (v.reg .ctrl).getLsbD j = (u.reg .ctrl).getLsbD j) : v.irq = u.irq := by
  rw [Bool.eq_iff_iff, Uart.irq_iff, Uart.irq_iff]
  exact exists_congr fun j => and_congr_right fun hj => by rw [hstat j hj, hctrl j hj]

/-- Storing a register other than STAT and CTRL keeps the level. -/
theorem Uart.irq_setReg_of_ne (u : Uart) {r : UartReg} (w : Word) (hstat : r ≠ .stat) (hctrl : r ≠ .ctrl) :
    (u.setReg r w).irq = u.irq :=
  Uart.irq_congr (fun _ _ => by rw [Uart.reg_setReg, if_neg hstat.symm])
    (fun _ _ => by rw [Uart.reg_setReg, if_neg hctrl.symm])

/-- Setting a bit outside the four pairs keeps the level, in whichever register it lies. -/
theorem Uart.irq_setRegBit_of_notMem (u : Uart) (r : UartReg) {i : Nat} (b : Bool) (hi : i ∉ Uart.irqBits) :
    (u.setRegBit r i b).irq = u.irq := by
  have hkeep (q : UartReg) (j : Nat) (hj : j ∈ Uart.irqBits) :
      ((u.setRegBit r i b).reg q).getLsbD j = (u.reg q).getLsbD j := by
    rw [Uart.reg_setRegBit]
    split
    · next h => rw [h, getLsbD_setBit_of_ne _ b (ne_of_mem_of_not_mem hj hi)]
    · rfl
  exact Uart.irq_congr (hkeep .stat) (hkeep .ctrl)

/-- Enabling a source that is set asserts the line. -/
theorem Uart.irq_of_enabled {u : Uart} {i : Nat} (hi : i ∈ Uart.irqBits) (hset : (u.reg .stat).getLsbD i = true) :
    (u.setRegBit .ctrl i true).irq = true := by
  have hlt : i < 32 := by rw [Uart.mem_irqBits_iff] at hi; omega
  exact Uart.irq_iff.mpr ⟨i, hi, hset, u.getLsbD_setRegBit_self .ctrl hlt true⟩

/-- No rule sets IDLE (R36 item 2). -/
theorem Uart.Inv.idle_clear {c : Config} {u : Uart} (hu : u.Inv c) : (u.reg .stat).getLsbD 20 = false := by
  obtain ⟨-, -, hreg⟩ := Uart.inv_iff.mp hu
  obtain ⟨hmask, -⟩ := hreg .stat
  exact and_eq_zero_iff.mp hmask 20 rfl

/-! ## The level of an SPI (R245) -/

/-- The bits of TDF, RDF, WCF, FCF and TCF in SR, and of their enables in IER (R23, R24). -/
abbrev Spi.irqBits : List Nat := [0, 1, 8, 9, 10]

theorem Spi.mem_irqBits_iff {j : Nat} : j ∈ Spi.irqBits ↔ j = 0 ∨ j = 1 ∨ 8 ≤ j ∧ j ≤ 10 := by
  simp only [List.mem_cons, List.not_mem_nil, or_false]
  omega

theorem Spi.getLsbD_irqMask (j : Nat) : (0x00000703#32).getLsbD j = decide (j ∈ Spi.irqBits) :=
  getLsbD_eq_decide _ (· ∈ Spi.irqBits) (by decide) (by decide) j

theorem Spi.irq_iff {p : Spi} :
    p.irq = true ↔ ∃ j ∈ Spi.irqBits, p.srLive.getLsbD j = true ∧ (p.reg .ier).getLsbD j = true :=
  decide_eq_true_iff.trans (and_mask_ne_zero_iff Spi.getLsbD_irqMask)

/-- The level depends on the five bits of the live SR and the five of IER alone. -/
theorem Spi.irq_congr {p q : Spi} (hsr : ∀ j ∈ Spi.irqBits, q.srLive.getLsbD j = p.srLive.getLsbD j)
    (hier : ∀ j ∈ Spi.irqBits, (q.reg .ier).getLsbD j = (p.reg .ier).getLsbD j) : q.irq = p.irq := by
  rw [Bool.eq_iff_iff, Spi.irq_iff, Spi.irq_iff]
  exact exists_congr fun j => and_congr_right fun hj => by rw [hsr j hj, hier j hj]

/-- SR bit 0 is TDF, from the TX occupancy and FCR[15:0] (R23, R102). -/
theorem Spi.srLive_tdf_iff {p : Spi} :
    p.srLive.getLsbD 0 = true ↔ p.tx.length ≤ ((p.reg .fcr).extractLsb' 0 16).toNat := by
  rw [Spi.getLsbD_srLive, if_pos rfl]
  exact decide_eq_true_iff

/-- SR bit 1 is RDF, from the RX occupancy and FCR[31:16] (R23, R102). -/
theorem Spi.srLive_rdf_iff {p : Spi} :
    p.srLive.getLsbD 1 = true ↔ ((p.reg .fcr).extractLsb' 16 16).toNat < p.rx.length := by
  rw [Spi.getLsbD_srLive, if_neg (by decide), if_pos rfl]
  exact decide_eq_true_iff

/-- WCF, FCF and TCF read as stored (R23, R102). -/
theorem Spi.srLive_sticky (p : Spi) {j : Nat} (hj : 8 ≤ j ∧ j ≤ 10) :
    p.srLive.getLsbD j = (p.reg .sr).getLsbD j := by
  rw [Spi.getLsbD_srLive, if_neg (by omega), if_neg (by omega), decide_eq_true (by omega), Bool.true_and]

/-- Setting a stored bit of SR other than WCF, FCF and TCF, so TEF and REF too, keeps the level: TDF and RDF are
computed (R23). -/
theorem Spi.irq_setRegBit_sr (p : Spi) {i : Nat} (b : Bool) (hi : ¬(8 ≤ i ∧ i ≤ 10)) :
    (p.setRegBit .sr i b).irq = p.irq := by
  refine Spi.irq_congr (fun j hj => ?_) (fun _ _ => rfl)
  rcases Spi.mem_irqBits_iff.mp hj with rfl | rfl | hsticky
  · rw [Bool.eq_iff_iff, Spi.srLive_tdf_iff, Spi.srLive_tdf_iff]
    rfl
  · rw [Bool.eq_iff_iff, Spi.srLive_rdf_iff, Spi.srLive_rdf_iff]
    rfl
  · have hji : j ≠ i := fun h => hi (h ▸ hsticky)
    rw [Spi.srLive_sticky _ hsticky, Spi.srLive_sticky _ hsticky, Spi.reg_setRegBit, if_pos rfl,
      getLsbD_setBit_of_ne _ b hji]

/-- Setting a bit of IER outside the five pairs keeps the level. -/
theorem Spi.irq_setRegBit_ier (p : Spi) {i : Nat} (b : Bool) (hi : i ∉ Spi.irqBits) :
    (p.setRegBit .ier i b).irq = p.irq :=
  Spi.irq_congr (fun _ _ => rfl) fun j hj => by
    rw [Spi.reg_setRegBit, if_pos rfl, getLsbD_setBit_of_ne _ b (ne_of_mem_of_not_mem hj hi)]

/-- Enabling a source that is set asserts the line. -/
theorem Spi.irq_of_enabled {p : Spi} {i : Nat} (hi : i ∈ Spi.irqBits) (hset : p.srLive.getLsbD i = true) :
    (p.setRegBit .ier i true).irq = true := by
  have hlt : i < 32 := by rw [Spi.mem_irqBits_iff] at hi; omega
  exact Spi.irq_iff.mpr ⟨i, hi, hset, p.getLsbD_setRegBit_self .ier hlt true⟩

end Machine

end Sys2Proof

namespace Sys2Proof.Proofs

open Sys2Proof.Machine

/-- Settles O44: the pairs are the places of the mask; IDLE is clear under the invariant, and TDRE and TC are set by a
reset. -/
theorem uartInterruptIsTheOrOfItsPairs : Obligations.UartInterruptIsTheOrOfItsPairs := by
  have hpairs (u : Uart) : u.irq = true ↔
      ((u.reg .stat).getLsbD 21 = true ∧ (u.reg .ctrl).getLsbD 21 = true) ∨
      ((u.reg .stat).getLsbD 23 = true ∧ (u.reg .ctrl).getLsbD 23 = true) ∨
      ((u.reg .stat).getLsbD 22 = true ∧ (u.reg .ctrl).getLsbD 22 = true) ∨
      ((u.reg .stat).getLsbD 20 = true ∧ (u.reg .ctrl).getLsbD 20 = true) := by
    rw [Uart.irq_iff]
    simp only [List.exists_mem_cons_iff, List.not_mem_nil, false_and, exists_false, or_false]
  refine ⟨fun u => ⟨hpairs u, fun i b hi => ?_, fun r w => u.irq_setReg_of_ne w, fun c hu => ?_⟩,
    fun c u hc => ⟨Uart.irq_resetAll hc u, ?_⟩⟩
  · have hnot : i ∉ Uart.irqBits := by
      rw [Uart.mem_irqBits_iff]
      omega
    exact ⟨u.irq_setRegBit_of_notMem .stat b hnot, u.irq_setRegBit_of_notMem .ctrl b hnot⟩
  · rw [hpairs u, hu.idle_clear]
    simp only [Bool.false_eq_true, false_and, or_false]
  · have hstat : (u.resetAll c).reg .stat = 0x00C00000#32 := Config.uart_reset_stat hc
    exact ⟨Uart.irq_of_enabled (by decide) (by rw [hstat]; rfl),
      Uart.irq_of_enabled (by decide) (by rw [hstat]; rfl)⟩

/-- Settles O45: the pairs are the places of the mask in the live SR, which after a power-on shows TDF alone. -/
theorem spiInterruptIsTheOrOfItsPairs : Obligations.SpiInterruptIsTheOrOfItsPairs := by
  refine ⟨fun p => ⟨?_, fun i b => p.irq_setRegBit_sr b, fun i b hsticky htdf hrdf => ?_, fun _ _ => rfl⟩,
    fun c p hc => ?_⟩
  · rw [Spi.irq_iff]
    simp only [List.exists_mem_cons_iff, List.not_mem_nil, false_and, exists_false, or_false]
    rw [Spi.srLive_tdf_iff, Spi.srLive_rdf_iff, p.srLive_sticky (by decide : 8 ≤ 8 ∧ 8 ≤ 10),
      p.srLive_sticky (by decide : 8 ≤ 9 ∧ 9 ≤ 10), p.srLive_sticky (by decide : 8 ≤ 10 ∧ 10 ≤ 10)]
  · refine p.irq_setRegBit_ier b ?_
    rw [Spi.mem_irqBits_iff]
    omega
  · obtain ⟨hsr, -, -, -, hquiet⟩ := Spi.quiet_of_reset hc (p.powerOn_regs c) rfl rfl
    exact ⟨hquiet, Spi.irq_of_enabled (by decide) (by rw [hsr]; rfl)⟩

end Sys2Proof.Proofs
end

section
/-!
PROOFS. The power-on resets (70_reset_and_hazards.md rules R260, R263): each event runs the reset rule of its kind on
the instance it names, so what it restores is what `Uart.resetAll` and `Spi.powerOn` restore.
-/

namespace Sys2Proof

namespace Machine

/-- UART.EVT.POR leaves its instance as the UART reset does, and returns nothing (R161, R260). -/
theorem exec_uartEvtPor_next {n : Nat} {s : State} {u : Uart} (hu : s.uarts[n]? = some u) :
    ∃ t, exec (.uartEvtPor n) s = .next t ∧ OnlyUart n (u.resetAll s.cfg) s t ∧ t.reply = .done :=
  ⟨_, onUart_next _ hu, onlyUart_set _ _ hu, rfl⟩

/-- SPI.EVT.POR leaves its instance as the power-on reset does, and returns nothing (R260). -/
theorem exec_spiEvtPor_next {n : Nat} {s : State} {p : Spi} (hp : s.spis[n]? = some p) :
    ∃ t, exec (.spiEvtPor n) s = .next t ∧ OnlySpi n (p.powerOn s.cfg) s t ∧ t.reply = .done :=
  ⟨_, onSpi_next _ hp, onlySpi_set _ _ hp, rfl⟩

end Machine

end Sys2Proof

namespace Sys2Proof.Proofs

open Sys2Proof.Machine

/-- Settles O37: the reset rules give every stored word, both FIFOs and the two SPI flags, and keep the record of what
went out. -/
theorem powerOnResetsRestoreEverything : Obligations.PowerOnResetsRestoreEverything := by
  refine fun s n => ⟨fun u hu => ?_, fun p hp => ?_⟩
  · obtain ⟨t, ht, honly, hreply⟩ := exec_uartEvtPor_next hu
    exact ⟨t, _, ht, honly, hreply, u.resetAll_tx s.cfg, u.resetAll_rx s.cfg, u.resetAll_out s.cfg,
      u.reg_resetAll s.cfg⟩
  · obtain ⟨t, ht, honly, hreply⟩ := exec_spiEvtPor_next hp
    exact ⟨t, _, ht, honly, hreply, p.powerOn_tx s.cfg, p.powerOn_rx s.cfg, p.powerOn_enabled s.cfg,
      p.powerOn_master s.cfg, p.powerOn_sent s.cfg, p.reg_powerOn s.cfg⟩

end Sys2Proof.Proofs
end
